-- ==== Sys2Proof/Word.lean ====
section
/-! DEFINITION. The bit-vector types of the YMZ replay core (spec 00_scope.md R6, R9). -/

namespace Sys2Proof

/-- A byte (R9): one slot of a bank, one trace byte, one half of a message. -/
abbrev Byte := BitVec 8

/-- A tick of the trace's logical clock, 64 bits unsigned (R6, R72). -/
abbrev Tick := BitVec 64

/-- A record `rec[79:0]`, the byte at the lowest trace offset in bits 79:72 (R70, R71). -/
abbrev Rec := BitVec 80

/-- The notational word of a message: address in bits 15:8, payload in bits 7:0 (R75). -/
abbrev MsgWord := BitVec 16

end Sys2Proof
end

