-- ==== Sys2Proof/Syntax.lean ====
section
/-! DEFINITION. The instructions: one constructor per row of spec/opcode_table.json (30_encoding.md R79, R80, R86). -/

namespace Sys2Proof

/-- The rows of the opcode table. Format `REC` (R71): the fourteen slot writes and the five rows of invalid events, with
the record's clock and value (the invalid rows keep the whole register byte; WellFormed says which bytes a row covers).
Format `MSG` (R75): the messages the core sends, a field message with its payload byte. -/
inductive Instr where
  | wr0 (clock : Tick) (value : Byte)
  | wr1 (clock : Tick) (value : Byte)
  | wr2 (clock : Tick) (value : Byte)
  | wr3 (clock : Tick) (value : Byte)
  | wr4 (clock : Tick) (value : Byte)
  | wr5 (clock : Tick) (value : Byte)
  | wr6 (clock : Tick) (value : Byte)
  | wr7 (clock : Tick) (value : Byte)
  | wr8 (clock : Tick) (value : Byte)
  | wr9 (clock : Tick) (value : Byte)
  | wr10 (clock : Tick) (value : Byte)
  | wr11 (clock : Tick) (value : Byte)
  | wr12 (clock : Tick) (value : Byte)
  | wr13 (clock : Tick) (value : Byte)
  | invalid0E (clock : Tick) (register value : Byte)   -- registers 0x0E to 0x0F
  | invalid10 (clock : Tick) (register value : Byte)   -- registers 0x10 to 0x1F
  | invalid20 (clock : Tick) (register value : Byte)   -- registers 0x20 to 0x3F
  | invalid40 (clock : Tick) (register value : Byte)   -- registers 0x40 to 0x7F
  | invalid80 (clock : Tick) (register value : Byte)   -- registers 0x80 to 0xFF
  | msgAFreqHi (payload : Byte)
  | msgAFreqLo (payload : Byte)
  | msgBFreqHi (payload : Byte)
  | msgBFreqLo (payload : Byte)
  | msgCFreqHi (payload : Byte)
  | msgCFreqLo (payload : Byte)
  | msgNoise (payload : Byte)
  | msgMixer (payload : Byte)
  | msgALevel (payload : Byte)
  | msgBLevel (payload : Byte)
  | msgCLevel (payload : Byte)
  | msgEnvFreqHi (payload : Byte)
  | msgEnvFreqMid (payload : Byte)
  | msgEnvFreqLo (payload : Byte)
  | msgEnvShape (payload : Byte)
  | msgLatchEnable
  | msgLatchDisable
  | msgLatchInit
deriving DecidableEq, Repr

end Sys2Proof
end

