-- ==== Sys2Proof/WellFormed.lean ====
section
/-! DEFINITION. Which terms of `Instr` are instances of their row of the opcode table, and the classes of rows. -/

namespace Sys2Proof

/-- The bits of `v` under `mask` are exactly `pattern`: one row's mask and match over one byte (R86). -/
def matchesRow (v mask pattern : Byte) : Bool := v &&& mask == pattern

/-- A term is well formed when its bytes have the bits its row fixes: the register byte of an `INVALID` row (R80), the
payload bits a message has at 0 (R77). A slot write admits every clock (R72) and every value (R81). -/
def Instr.wf : Instr → Bool
  | .wr0 _ _ | .wr1 _ _ | .wr2 _ _ | .wr3 _ _ | .wr4 _ _ | .wr5 _ _ | .wr6 _ _ | .wr7 _ _
  | .wr8 _ _ | .wr9 _ _ | .wr10 _ _ | .wr11 _ _ | .wr12 _ _ | .wr13 _ _ => true
  | .invalid0E _ r _ => matchesRow r 0xFE 0x0E
  | .invalid10 _ r _ => matchesRow r 0xF0 0x10
  | .invalid20 _ r _ => matchesRow r 0xE0 0x20
  | .invalid40 _ r _ => matchesRow r 0xC0 0x40
  | .invalid80 _ r _ => matchesRow r 0x80 0x80
  | .msgAFreqHi p | .msgBFreqHi p | .msgCFreqHi p => matchesRow p 0x80 0
  | .msgAFreqLo p | .msgBFreqLo p | .msgCFreqLo p => matchesRow p 0x83 0
  | .msgNoise p => matchesRow p 0x83 0
  | .msgMixer p => matchesRow p 0x81 0
  | .msgALevel p | .msgBLevel p | .msgCLevel p => matchesRow p 0x83 0
  | .msgEnvFreqHi p | .msgEnvFreqMid p => matchesRow p 0x80 0
  | .msgEnvFreqLo p => matchesRow p 0x9F 0
  | .msgEnvShape p => matchesRow p 0x87 0
  | .msgLatchEnable | .msgLatchDisable | .msgLatchInit => true

/-- The slot-write rows `WR0` to `WR13` (R79), with the clock of the record. -/
def Instr.writeClock? : Instr → Option Tick
  | .wr0 k _ | .wr1 k _ | .wr2 k _ | .wr3 k _ | .wr4 k _ | .wr5 k _ | .wr6 k _ | .wr7 k _
  | .wr8 k _ | .wr9 k _ | .wr10 k _ | .wr11 k _ | .wr12 k _ | .wr13 k _ => some k
  | .invalid0E _ _ _ | .invalid10 _ _ _ | .invalid20 _ _ _ | .invalid40 _ _ _ | .invalid80 _ _ _ => none
  | .msgAFreqHi _ | .msgAFreqLo _ | .msgBFreqHi _ | .msgBFreqLo _ | .msgCFreqHi _ | .msgCFreqLo _
  | .msgNoise _ | .msgMixer _ | .msgALevel _ | .msgBLevel _ | .msgCLevel _
  | .msgEnvFreqHi _ | .msgEnvFreqMid _ | .msgEnvFreqLo _ | .msgEnvShape _
  | .msgLatchEnable | .msgLatchDisable | .msgLatchInit => none

/-- The rows of format `MSG` (R86): what the core sends, never what it fetches. -/
def Instr.isMessage : Instr → Bool
  | .wr0 _ _ | .wr1 _ _ | .wr2 _ _ | .wr3 _ _ | .wr4 _ _ | .wr5 _ _ | .wr6 _ _ | .wr7 _ _
  | .wr8 _ _ | .wr9 _ _ | .wr10 _ _ | .wr11 _ _ | .wr12 _ _ | .wr13 _ _ => false
  | .invalid0E _ _ _ | .invalid10 _ _ _ | .invalid20 _ _ _ | .invalid40 _ _ _ | .invalid80 _ _ _ => false
  | .msgAFreqHi _ | .msgAFreqLo _ | .msgBFreqHi _ | .msgBFreqLo _ | .msgCFreqHi _ | .msgCFreqLo _
  | .msgNoise _ | .msgMixer _ | .msgALevel _ | .msgBLevel _ | .msgCLevel _
  | .msgEnvFreqHi _ | .msgEnvFreqMid _ | .msgEnvFreqLo _ | .msgEnvShape _
  | .msgLatchEnable | .msgLatchDisable | .msgLatchInit => true

end Sys2Proof
end

