-- ==== Sys2Proof/Decode.lean ====
section
/-! DEFINITION. Decoding of records and of the notational message words (30_encoding.md R70 to R86), and the encoder. -/

namespace Sys2Proof

/-- Why bytes are no row of the opcode table. A record of 10 bytes always decodes (R80). -/
inductive DecodeError where
  /-- The bytes are neither one record (10 bytes, R70) nor one message word (2 bytes, R75). -/
  | wrongLength (n : Nat)
  /-- No row of format `MSG` has this address (R76) with this latch payload or these payload bits fixed at 0 (R77). -/
  | noSuchMessage (address payload : Byte)
deriving DecidableEq, Repr

/-! ### The record format `REC` -/

/-- `rec[79:16]` (R71). -/
def recordClock (w : Rec) : Tick := w.extractLsb' 16 64

/-- `rec[15:8]` (R71), read as unsigned (R74). -/
def recordRegister (w : Rec) : Byte := w.extractLsb' 8 8

/-- `rec[7:0]` (R71). -/
def recordValue (w : Rec) : Byte := w.extractLsb' 0 8

/-- The ten bytes of a record in trace order as one number, the first byte most significant (R50, R71). -/
def recordOfBytes (bs : List Byte) : Rec :=
  bs.foldl (fun acc b => (acc <<< 8) ||| b.zeroExtend 80) 0

/-- The ten bytes of a record in trace order (R71). -/
def recordBytes (w : Rec) : List Byte :=
  [w.extractLsb' 72 8, w.extractLsb' 64 8, w.extractLsb' 56 8, w.extractLsb' 48 8, w.extractLsb' 40 8,
   w.extractLsb' 32 8, w.extractLsb' 24 8, w.extractLsb' 16 8, w.extractLsb' 8 8, w.extractLsb' 0 8]

/-- The opcode map (R79) and the invalid rows (R80): the register byte alone decides. -/
def decodeEvent (k : Tick) (r v : Byte) : Instr :=
  if r = 0x00 then .wr0 k v
  else if r = 0x01 then .wr1 k v
  else if r = 0x02 then .wr2 k v
  else if r = 0x03 then .wr3 k v
  else if r = 0x04 then .wr4 k v
  else if r = 0x05 then .wr5 k v
  else if r = 0x06 then .wr6 k v
  else if r = 0x07 then .wr7 k v
  else if r = 0x08 then .wr8 k v
  else if r = 0x09 then .wr9 k v
  else if r = 0x0A then .wr10 k v
  else if r = 0x0B then .wr11 k v
  else if r = 0x0C then .wr12 k v
  else if r = 0x0D then .wr13 k v
  else if matchesRow r 0xFE 0x0E then .invalid0E k r v
  else if matchesRow r 0xF0 0x10 then .invalid10 k r v
  else if matchesRow r 0xE0 0x20 then .invalid20 k r v
  else if matchesRow r 0xC0 0x40 then .invalid40 k r v
  else .invalid80 k r v

/-- Decoding of a record: total (R80). -/
def decodeRecord (w : Rec) : Instr := decodeEvent (recordClock w) (recordRegister w) (recordValue w)

/-! ### The message format `MSG` -/

/-- A message row with a payload byte: the row, if the payload bits it fixes are as it fixes them. -/
def messageRow (i : Instr) (a p : Byte) : Except DecodeError Instr :=
  if i.wf then .ok i else .error (.noSuchMessage a p)

/-- Decoding of a message word by the default addresses and latch payloads (R76, R85, R86). -/
def decodeMessage (a p : Byte) : Except DecodeError Instr :=
  if a = 20 then messageRow (.msgAFreqHi p) a p
  else if a = 52 then messageRow (.msgAFreqLo p) a p
  else if a = 21 then messageRow (.msgBFreqHi p) a p
  else if a = 53 then messageRow (.msgBFreqLo p) a p
  else if a = 22 then messageRow (.msgCFreqHi p) a p
  else if a = 54 then messageRow (.msgCFreqLo p) a p
  else if a = 23 then messageRow (.msgNoise p) a p
  else if a = 24 then messageRow (.msgMixer p) a p
  else if a = 25 then messageRow (.msgALevel p) a p
  else if a = 26 then messageRow (.msgBLevel p) a p
  else if a = 27 then messageRow (.msgCLevel p) a p
  else if a = 28 then messageRow (.msgEnvFreqHi p) a p
  else if a = 29 then messageRow (.msgEnvFreqMid p) a p
  else if a = 30 then messageRow (.msgEnvFreqLo p) a p
  else if a = 31 then messageRow (.msgEnvShape p) a p
  else if a = 80 ∧ p = 64 then .ok .msgLatchEnable
  else if a = 80 ∧ p = 0 then .ok .msgLatchDisable
  else if a = 80 ∧ p = 127 then .ok .msgLatchInit
  else .error (.noSuchMessage a p)

/-- Decoding of any bytes: two bytes are a message word, address first (R75), ten a record (R70). -/
def decode (bs : List Byte) : Except DecodeError Instr :=
  match bs with
  | [a, p] => decodeMessage a p
  | [_, _, _, _, _, _, _, _, _, _] => .ok (decodeRecord (recordOfBytes bs))
  | _ => .error (.wrongLength bs.length)

/-! ### The encoder -/

/-- A record from its three fields (R71). -/
def encodeRecord (k : Tick) (r v : Byte) : List Byte := recordBytes (k ++ r ++ v)

/-- The bytes of a well-formed instruction: the ten bytes of a record (R71, R79, R80), or address and payload of a message
word with the default addresses and latch payloads (R75, R76, R85). -/
def encode : Instr → List Byte
  | .wr0 k v => encodeRecord k 0x00 v
  | .wr1 k v => encodeRecord k 0x01 v
  | .wr2 k v => encodeRecord k 0x02 v
  | .wr3 k v => encodeRecord k 0x03 v
  | .wr4 k v => encodeRecord k 0x04 v
  | .wr5 k v => encodeRecord k 0x05 v
  | .wr6 k v => encodeRecord k 0x06 v
  | .wr7 k v => encodeRecord k 0x07 v
  | .wr8 k v => encodeRecord k 0x08 v
  | .wr9 k v => encodeRecord k 0x09 v
  | .wr10 k v => encodeRecord k 0x0A v
  | .wr11 k v => encodeRecord k 0x0B v
  | .wr12 k v => encodeRecord k 0x0C v
  | .wr13 k v => encodeRecord k 0x0D v
  | .invalid0E k r v => encodeRecord k r v
  | .invalid10 k r v => encodeRecord k r v
  | .invalid20 k r v => encodeRecord k r v
  | .invalid40 k r v => encodeRecord k r v
  | .invalid80 k r v => encodeRecord k r v
  | .msgAFreqHi p => [20, p]
  | .msgAFreqLo p => [52, p]
  | .msgBFreqHi p => [21, p]
  | .msgBFreqLo p => [53, p]
  | .msgCFreqHi p => [22, p]
  | .msgCFreqLo p => [54, p]
  | .msgNoise p => [23, p]
  | .msgMixer p => [24, p]
  | .msgALevel p => [25, p]
  | .msgBLevel p => [26, p]
  | .msgCLevel p => [27, p]
  | .msgEnvFreqHi p => [28, p]
  | .msgEnvFreqMid p => [29, p]
  | .msgEnvFreqLo p => [30, p]
  | .msgEnvShape p => [31, p]
  | .msgLatchEnable => [80, 64]
  | .msgLatchDisable => [80, 0]
  | .msgLatchInit => [80, 127]

/-! ### Words as the opcode table numbers them -/

/-- The two bytes of a 16-bit word of format `MSG`, address first (R75). -/
def messageBytes (w : MsgWord) : List Byte := [w.extractLsb' 8 8, w.extractLsb' 0 8]

/-- The bytes of a table word: a word of at most 16 bits that is a row of format `MSG` is that message; every other word
is a record `rec[79:0]`, the bits above `nbits` being 0 (R71, R75, R86; log 12). -/
def tableWordBytes (nbits w : Nat) : List Byte :=
  let msg := messageBytes (BitVec.ofNat 16 w)
  if nbits ≤ 16 ∧ (decode msg).isOk then msg else recordBytes (BitVec.ofNat 80 (w % 2 ^ nbits))

/-- The instruction the decoder reads from a table word (log 12). -/
def decodeTableWord (nbits w : Nat) : Option Instr :=
  match decode (tableWordBytes nbits w) with
  | .ok i => some i
  | .error _ => none

end Sys2Proof
end

