-- ==== Sys2Proof/Config.lean ====
section
/-! DEFINITION. The configuration of the core (spec 00_scope.md R7, R8; 30_encoding.md R76, R85): fixed for a session
(R213), with the spec's default values. Every parameter the spec leaves open is a field here (log 10). -/

namespace Sys2Proof

/-- The sixteen protocol addresses `ADDR` (R7, R76). -/
structure Addr where
  aFreqHi : Byte
  aFreqLo : Byte
  bFreqHi : Byte
  bFreqLo : Byte
  cFreqHi : Byte
  cFreqLo : Byte
  noise : Byte
  mixer : Byte
  aLevel : Byte
  bLevel : Byte
  cLevel : Byte
  envFreqHi : Byte
  envFreqMid : Byte
  envFreqLo : Byte
  envShape : Byte
  latch : Byte
deriving DecidableEq, Repr

/-- The default address table (R76). -/
def Addr.default : Addr :=
  { aFreqHi := 20, aFreqLo := 52, bFreqHi := 21, bFreqLo := 53, cFreqHi := 22, cFreqLo := 54,
    noise := 23, mixer := 24, aLevel := 25, bLevel := 26, cLevel := 27,
    envFreqHi := 28, envFreqMid := 29, envFreqLo := 30, envShape := 31, latch := 80 }

/-- The sixteen addresses as a list, in the order of R76. -/
def Addr.toList (a : Addr) : List Byte :=
  [a.aFreqHi, a.aFreqLo, a.bFreqHi, a.bFreqLo, a.cFreqHi, a.cFreqLo, a.noise, a.mixer,
   a.aLevel, a.bLevel, a.cLevel, a.envFreqHi, a.envFreqMid, a.envFreqLo, a.envShape, a.latch]

/-- `PREV_CLOCK_INIT` (R8, D2): the previous-clock state at session start. -/
inductive PrevClockInit where
  | noEvent   -- no previous event (the value the spec takes)
  | zero      -- a previous event of clock 0
deriving DecidableEq, Repr

/-- `FINAL_FLUSH` (R8, D4): on which ends of a session a final FLUSH runs. -/
inductive FinalFlush where
  | normalOnly   -- at normal stream completion only (the value the spec takes)
  | never
  | always       -- at truncation and interrupt too (log 11)
deriving DecidableEq, Repr

/-- The configuration of a session (R8). `DIFF_MODE` has the one value `corrected` (R146, D7) and is no field. -/
structure Config where
  addr : Addr
  latchEnable : Byte
  latchDisable : Byte
  latchInit : Byte
  prevClockInit : PrevClockInit
  gateInvalid : Bool
  finalFlush : FinalFlush
  envMidShift : Nat
  envLowShift : Nat
deriving DecidableEq, Repr

/-- The values the spec takes (R8, R76, R85). -/
def Config.default : Config :=
  { addr := Addr.default, latchEnable := 64, latchDisable := 0, latchInit := 127,
    prevClockInit := .noEvent, gateInvalid := true, finalFlush := .normalOnly,
    envMidShift := 7, envLowShift := 2 }

/-- What the spec asks of a configuration: distinct addresses (R7), addresses and latch payloads in 0 to 127 (R75, D13). -/
def Config.wf (cfg : Config) : Bool :=
  decide cfg.addr.toList.Nodup && cfg.addr.toList.all (fun a => decide (a.toNat < 128)) &&
    decide (cfg.latchEnable.toNat < 128) && decide (cfg.latchDisable.toNat < 128) &&
    decide (cfg.latchInit.toNat < 128)

/-- `TICK_NS`, the nanoseconds of one tick: a constant of the hardware (R6, R120). -/
def Config.tickNs : Nat := 125

end Sys2Proof
end

