-- ==== Sys2Proof/Machine/ResetSequence.lean ====
section
/-! DEFINITION. The message sequence of RESET (spec 44_reset_operation.md R170): it depends on no state (R173). -/

namespace Sys2Proof.Machine

/-- The seventeen messages of RESET in order (R170): begin-update, a zero for each of the fifteen field addresses whatever
the banks held (R171), end-update. -/
def resetMessages : List Instr :=
  [.msgLatchInit,
   .msgAFreqHi 0, .msgAFreqLo 0, .msgBFreqHi 0, .msgBFreqLo 0, .msgCFreqHi 0, .msgCFreqLo 0,
   .msgNoise 0, .msgMixer 0, .msgALevel 0, .msgBLevel 0, .msgCLevel 0,
   .msgEnvFreqHi 0, .msgEnvFreqMid 0, .msgEnvFreqLo 0, .msgEnvShape 0,
   .msgLatchDisable]

end Sys2Proof.Machine
end

