-- ==== Sys2Proof/Machine/State.lean ====
section
/-! DEFINITION. The state of the core (spec 10_state.md), its inputs and observation as plain data (R37), the state after
reset (R38), and the reasons a step can stop. -/

namespace Sys2Proof.Machine

open Sys2Proof

/-- A register bank: sixteen byte slots (R20, R24). -/
abbrev Bank := Vector Byte 16

/-- The bank of zeros (R38, R175). -/
def Bank.zero : Bank := #v[0, 0, 0, 0, 0, 0, 0, 0, 0, 0, 0, 0, 0, 0, 0, 0]

/-- One message `(address, payload)` offered to the sink (R75). -/
structure Message where
  address : Byte
  payload : Byte
deriving DecidableEq, Repr

/-- The cause codes of R181, the values of `exit_cause`. -/
inductive Cause where
  | normal
  | invalidRegisterIndex
  | streamTruncated
  | sendFailure
  | interrupt
deriving DecidableEq, Repr

/-- The four conditions that can arise in a session, with the information each records (R181): also the entries of `diag`. -/
inductive Condition where
  | invalidRegisterIndex (index : Nat) (register : Byte)
  | streamTruncated (index count : Nat)
  | sendFailure (message : Message)
  | interrupt
deriving DecidableEq, Repr

/-- The sequencer's phase (R33). -/
inductive Phase where
  | off
  | startReset
  | run
  | finalFlush
  | endReset
  | done
deriving DecidableEq, Repr

/-- The place within one iteration of the event loop (R92), the model's own register (log 24): before step 1; waiting in
the GATE of step 3 with the record fetched; in the FLUSH of step 5 with the record whose steps 6 and 7 are still to come. -/
inductive Stage where
  | fetch
  | gate (record : Instr)
  | flush (record : Instr)
deriving DecidableEq, Repr

/-- The trace space (R12, R35, R59): `len` bytes from offset 0. A byte not listed in `cells` is 0 below `len` and does
not exist from `len` on (log 9). -/
structure Memory where
  cells : List Host.Cell
  len : Nat
deriving DecidableEq, Repr

/-- What the time input and the interrupt input do before one step (R31, R37): the nanoseconds that pass, and whether the
interrupt is signalled (log 3, log 14). -/
structure Arrival where
  elapsed : Nat
  irq : Bool
deriving DecidableEq, Repr

/-- The state of the core, with the inputs and the observation of R37. -/
structure State where
  /-- the pending bank (R20) -/
  x : Bank
  /-- the committed bank (R24) -/
  c : Bank
  /-- the index of the next record to fetch (R26) -/
  pc : Nat
  /-- whether an accepted event has been processed (R27) -/
  prevValid : Bool
  /-- the clock of the previous accepted event (R27); no meaning while `prevValid` is false (log 4) -/
  prevClock : Tick
  /-- the anchor of all deadlines, in nanoseconds (R28; log 5) -/
  anchor : Nat
  /-- the one-shot flag of the teardown guard (R29) -/
  teardownDone : Bool
  /-- the sink is held (R30) -/
  sinkOpen : Bool
  /-- the interrupt has been signalled (R31) -/
  irqPending : Bool
  /-- the number of invalid events dropped (R32) -/
  warnCount : Nat
  /-- the stream ended within a record (R32) -/
  truncated : Bool
  /-- why the session ended (R32, R181) -/
  exitCause : Cause
  /-- the sequencer's phase (R33) -/
  phase : Phase
  /-- the model's own: the place within an iteration of the event loop (R92; log 24) -/
  stage : Stage
  /-- the model's own: the messages of the FLUSH or RESET in progress still to be sent (R14; log 2) -/
  outbox : List Instr
  /-- parameter: the configuration, fixed for the session (R8, R213; log 10) -/
  config : Config
  /-- input: the trace (R37, R64) -/
  trace : Memory
  /-- input: the time in nanoseconds (R12; log 6) -/
  now : Nat
  /-- input: time and interrupt before the coming steps (log 3) -/
  arrivals : List Arrival
  /-- input: the sink's answers to the coming Sends, `true` for `ok` (R12; log 3) -/
  answers : List Bool
  /-- observation: the messages the sink accepted, oldest first (R12, R37) -/
  out : List Message
  /-- observation: warnings and diagnostics, oldest first (R12, R37) -/
  diag : List Condition
deriving DecidableEq, Repr

/-- Why a step stops with a fault. -/
inductive Fault where
  /-- Raised by a Send while the sink is not held: the spec says `Send` is only ever called while `sink_open = 1` (R30) and
  gives no effect otherwise. No run from reset reaches it. Safe: the model stops (log 13). -/
  | sinkNotHeld
deriving DecidableEq, Repr

/-- Why an instruction is refused. -/
inductive Refusal where
  /-- Raised by `exec` for an instruction that has no meaning yet. Safe: the model makes no claim. No arm answers it. -/
  | notModelled (mnemonic : String)
deriving DecidableEq, Repr

/-- The machine right after reset: the creation column of R38, the only initial state there is (R210), with the messages of
the start RESET ahead (R211 step 4; log 7), an empty trace and no input listed (log 3, log 6). `prevClock` and `anchor`
have no value in the spec; they are 0 here (log 4, log 5). -/
def State.reset : State :=
  { x := Bank.zero, c := Bank.zero, pc := 0, prevValid := false, prevClock := 0, anchor := 0,
    teardownDone := false, sinkOpen := true, irqPending := false,
    warnCount := 0, truncated := false, exitCause := .normal, phase := .startReset,
    stage := .fetch, outbox := resetMessages,
    config := Config.default, trace := { cells := [], len := 0 }, now := 0, arrivals := [], answers := [],
    out := [], diag := [] }

end Sys2Proof.Machine
end

