-- ==== Sys2Proof/Machine/Flags.lean ====
section
/-! DEFINITION. The core has no condition codes and no operation sets a flag from a computed result (spec 10_state.md R34).
What it has are the conditions its operations test: the ten field comparisons (42_diff_encoder.md R132 to R141, whole bytes,
R147), the batch boundary (40_event_fetch_and_writes.md R93) and the deadline (41_scheduler.md R120). -/

namespace Sys2Proof.Machine

open Sys2Proof

/-- One slot of the two banks differs. -/
def slotDiffers (x y : Bank) (i : Fin 16) : Bool := x[i] != y[i]

/-- Channel A frequency changed (R132). -/
def changedFreqA (x y : Bank) : Bool := slotDiffers x y 0 || slotDiffers x y 1

/-- Channel B frequency changed (R133). -/
def changedFreqB (x y : Bank) : Bool := slotDiffers x y 2 || slotDiffers x y 3

/-- Channel C frequency changed (R134): slot 5 against slot 5 (R146). -/
def changedFreqC (x y : Bank) : Bool := slotDiffers x y 4 || slotDiffers x y 5

/-- Noise frequency changed (R135). -/
def changedNoise (x y : Bank) : Bool := slotDiffers x y 6

/-- Mixer changed (R136). -/
def changedMixer (x y : Bank) : Bool := slotDiffers x y 7

/-- Channel A level changed (R137). -/
def changedLevelA (x y : Bank) : Bool := slotDiffers x y 8

/-- Channel B level changed (R138): slot 9 against slot 9 (R146). -/
def changedLevelB (x y : Bank) : Bool := slotDiffers x y 9

/-- Channel C level changed (R139). -/
def changedLevelC (x y : Bank) : Bool := slotDiffers x y 10

/-- Envelope frequency changed (R140). -/
def changedEnvFreq (x y : Bank) : Bool := slotDiffers x y 11 || slotDiffers x y 12

/-- Envelope shape changed (R141). -/
def changedShape (x y : Bank) : Bool := slotDiffers x y 13

/-- A batch boundary (R93): an accepted event came before, and its clock is another. -/
def boundary (k : Tick) (s : State) : Bool := s.prevValid && k != s.prevClock

/-- `deadline(k)` in nanoseconds, exact (R120, R126). -/
def deadline (k : Tick) (s : State) : Nat := s.anchor + k.toNat * Config.tickNs

/-- The GATE of clock `k` waits: strict (R121, R122). -/
def tooEarly (k : Tick) (s : State) : Bool := decide (s.now < deadline k s)

/-- The event of step 5 is in progress: its FLUSH has been started (R92). -/
def inEventFlush (s : State) : Bool :=
  match s.stage with
  | .flush _ => true
  | .fetch | .gate _ => false

/-- A FLUSH is in progress: the one of step 5 (R92) or the final one (R112). -/
def flushing (s : State) : Bool :=
  match s.phase with
  | .run => inEventFlush s
  | .finalFlush => true
  | .off | .startReset | .endReset | .done => false

end Sys2Proof.Machine
end

