-- ==== Sys2Proof/Machine/Operands.lean ====
section
/-! DEFINITION. Operand assembly (spec 30_encoding.md R78), the nine encoders (43_protocol_mapper.md R150 to R160) and the
message sequences of a changed field (R161). Arithmetic is over the natural numbers, narrowed to a byte at the end (R162). -/

namespace Sys2Proof.Machine

open Sys2Proof

/-! ### Field values (R78) -/

/-- A 12-bit frequency from its low slot and the 4 low bits of its high slot. -/
def freqValue (lo hi : Byte) : Nat := lo.toNat ||| ((hi.toNat <<< 8) &&& 0xF00)

/-- The 16-bit envelope frequency from its low and high slot. -/
def envValue (lo hi : Byte) : Nat := lo.toNat ||| (hi.toNat <<< 8)

/-- The 5-bit noise frequency. -/
def noiseValue (v : Byte) : Nat := v.toNat &&& 0x1F

/-- The 6-bit mixer value. -/
def mixerValue (v : Byte) : Nat := v.toNat &&& 0x3F

/-- A 5-bit level. -/
def levelValue (v : Byte) : Nat := v.toNat &&& 0x1F

/-- The 4-bit envelope shape. -/
def shapeValue (v : Byte) : Nat := v.toNat &&& 0x0F

/-- `fA` (R78). -/
def fA (x : Bank) : Nat := freqValue x[0] x[1]

/-- `fB` (R78). -/
def fB (x : Bank) : Nat := freqValue x[2] x[3]

/-- `fC` (R78). -/
def fC (x : Bank) : Nat := freqValue x[4] x[5]

/-! ### Encoders -/

/-- A payload byte. -/
def payloadByte (n : Nat) : Byte := BitVec.ofNat 8 n

/-- `ENC_FREQ_HI` (R152). -/
def encFreqHi (f : Nat) : Byte := payloadByte ((f >>> 5) &&& 0x7F)

/-- `ENC_FREQ_LO` (R153). -/
def encFreqLo (f : Nat) : Byte := payloadByte ((f <<< 2) &&& 0x7C)

/-- `ENC_ENV_HI` (R154). -/
def encEnvHi (e : Nat) : Byte := payloadByte ((e >>> 9) &&& 0x7F)

/-- `ENC_ENV_MID` (R155); the shift is `ENV_MID_SHIFT`, 7 by default (R8, C3). -/
def encEnvMid (shift e : Nat) : Byte := payloadByte ((e >>> shift) &&& 0x7F)

/-- `ENC_ENV_LO` (R156); the shift is `ENV_LOW_SHIFT`, 2 by default (R8, C3). -/
def encEnvLo (shift e : Nat) : Byte := payloadByte (((e >>> shift) &&& 0x03) <<< 5)

/-- `ENC_NOISE` (R157). -/
def encNoise (n : Nat) : Byte := payloadByte ((n &&& 0x1F) <<< 2)

/-- `ENC_MIXER` (R158). -/
def encMixer (m : Nat) : Byte := payloadByte ((m &&& 0x3F) <<< 1)

/-- `ENC_LEVEL` (R159). -/
def encLevel (l : Nat) : Byte := payloadByte ((l &&& 0x1F) <<< 2)

/-- `ENC_SHAPE` (R160). -/
def encShape (s : Nat) : Byte := payloadByte ((s &&& 0x0F) <<< 3)

/-! ### The messages of one field (R161) -/

/-- `EMIT_FREQ(A, f)` -/
def emitFreqA (f : Nat) : List Instr := [.msgAFreqHi (encFreqHi f), .msgAFreqLo (encFreqLo f)]

/-- `EMIT_FREQ(B, f)` -/
def emitFreqB (f : Nat) : List Instr := [.msgBFreqHi (encFreqHi f), .msgBFreqLo (encFreqLo f)]

/-- `EMIT_FREQ(C, f)` -/
def emitFreqC (f : Nat) : List Instr := [.msgCFreqHi (encFreqHi f), .msgCFreqLo (encFreqLo f)]

/-- `EMIT_NOISE(n)` -/
def emitNoise (n : Nat) : List Instr := [.msgNoise (encNoise n)]

/-- `EMIT_MIXER(m)` -/
def emitMixer (m : Nat) : List Instr := [.msgMixer (encMixer m)]

/-- `EMIT_LEVEL(A, l)` -/
def emitLevelA (l : Nat) : List Instr := [.msgALevel (encLevel l)]

/-- `EMIT_LEVEL(B, l)` -/
def emitLevelB (l : Nat) : List Instr := [.msgBLevel (encLevel l)]

/-- `EMIT_LEVEL(C, l)` -/
def emitLevelC (l : Nat) : List Instr := [.msgCLevel (encLevel l)]

/-- `EMIT_ENV_FREQ(e)` -/
def emitEnvFreq (cfg : Config) (e : Nat) : List Instr :=
  [.msgEnvFreqHi (encEnvHi e), .msgEnvFreqMid (encEnvMid cfg.envMidShift e), .msgEnvFreqLo (encEnvLo cfg.envLowShift e)]

/-- `EMIT_SHAPE(s)` -/
def emitShape (s : Nat) : List Instr := [.msgEnvShape (encShape s)]

end Sys2Proof.Machine
end

