-- ==== Sys2Proof/Machine/Ops.lean ====
section
/-! DEFINITION. The named operations: the trace space (R12), the sink (R14), RESET (R170), FLUSH (R130), TEARDOWN (R188) and
raising a condition (R183 to R186, R190), the slot write and the dropped event, the session start (R211). -/

namespace Sys2Proof.Machine

open Sys2Proof

/-! ### Trace space -/

/-- The byte listed for address `a`, 0 where none is. -/
def cellAt : List Host.Cell → Nat → Byte
  | [], _ => 0
  | (b, v) :: rest, a => if b = a then v else cellAt rest a

/-- One byte of the trace: none past its end (R12). -/
def Memory.read (m : Memory) (a : Nat) : Option Byte := if a < m.len then some (cellAt m.cells a) else none

/-- The cells with byte `v` at address `a`: a zero byte is not listed (log 9). -/
def insertCell (a : Nat) (v : Byte) : List Host.Cell → List Host.Cell
  | [] => if v = 0 then [] else [(a, v)]
  | (b, w) :: rest =>
    if a < b then (if v = 0 then (b, w) :: rest else (a, v) :: (b, w) :: rest)
    else if a = b then (if v = 0 then rest else (a, v) :: rest)
    else (b, w) :: insertCell a v rest

/-- The trace with byte `v` at address `a`, as whoever records a trace writes it; the core never writes the trace (R12,
R64). A byte past the end makes the trace longer. -/
def Memory.write (m : Memory) (a : Nat) (v : Byte) : Memory :=
  { cells := insertCell a v m.cells, len := max m.len (a + 1) }

/-- The bytes `bs` written from address `a` on. -/
def Memory.writeBytes (m : Memory) (a : Nat) : List Byte → Memory
  | [] => m
  | v :: vs => Memory.writeBytes (m.write a v) (a + 1) vs

/-- Cells with rising addresses from `lo` on, below `len`, none of them a zero byte. -/
def cellsCanonical (len : Nat) : Nat → List Host.Cell → Bool
  | _, [] => true
  | lo, (a, v) :: rest => decide (lo ≤ a) && decide (a < len) && v != 0 && cellsCanonical len (a + 1) rest

/-- The canonical form of a trace, so that equal traces are equal data (log 9). -/
def Memory.wf (m : Memory) : Bool := cellsCanonical m.len 0 m.cells

/-- What `MemRead` answers (R12). -/
inductive ReadResult where
  | bytes (bs : List Byte)
  | short (k : Nat)
deriving DecidableEq, Repr

/-- `MemRead(addr, n)` (R12). -/
def memRead (m : Memory) (addr n : Nat) : ReadResult :=
  if addr + n ≤ m.len then .bytes ((List.range n).map fun k => cellAt m.cells (addr + k))
  else .short (m.len - addr)

/-! ### RESET, FLUSH, TEARDOWN -/

/-- RESET begins (R170, R175): both banks zeroed first, then its messages are to be sent. -/
def beginReset (s : State) : State :=
  { s with x := Bank.zero, c := Bank.zero, outbox := resetMessages }

/-- A field's messages when it is changed, none otherwise (R132 to R141). -/
def whenChanged (changed : Bool) (msgs : List Instr) : List Instr := if changed then msgs else []

/-- The messages of a FLUSH in order (R130, R131), from the banks as they stand when it begins. -/
def flushMessages (cfg : Config) (x c : Bank) : List Instr :=
  .msgLatchEnable ::
    (whenChanged (changedFreqA x c) (emitFreqA (fA x)) ++
     whenChanged (changedFreqB x c) (emitFreqB (fB x)) ++
     whenChanged (changedFreqC x c) (emitFreqC (fC x)) ++
     whenChanged (changedNoise x c) (emitNoise (noiseValue x[6])) ++
     whenChanged (changedMixer x c) (emitMixer (mixerValue x[7])) ++
     whenChanged (changedLevelA x c) (emitLevelA (levelValue x[8])) ++
     whenChanged (changedLevelB x c) (emitLevelB (levelValue x[9])) ++
     whenChanged (changedLevelC x c) (emitLevelC (levelValue x[10])) ++
     whenChanged (changedEnvFreq x c) (emitEnvFreq cfg (envValue x[11] x[12])) ++
     whenChanged (changedShape x c) (emitShape (shapeValue x[13])) ++
     [.msgLatchDisable])

/-- FLUSH begins (R130): its messages are to be sent. -/
def beginFlush (s : State) : State := { s with outbox := flushMessages s.config s.x s.c }

/-- TEARDOWN up to its RESET (R188), behind the one-shot guard (R189). -/
def teardown (s : State) : State :=
  if s.teardownDone then s else beginReset { s with teardownDone := true, phase := .endReset }

/-- The sink is closed and the session is over (R188, R39). -/
def closeSink (s : State) : State := { s with sinkOpen := false, phase := .done }

/-- The final FLUSH begins (R112). -/
def beginFinalFlush (s : State) : State := beginFlush { s with phase := .finalFlush }

/-- The end of a session by truncation or interrupt: no FLUSH runs (R184, R186), unless FINAL_FLUSH is `always` (C2, log 11). -/
def endWithoutFlush (s : State) : State :=
  match s.config.finalFlush with
  | .always => beginFinalFlush s
  | .normalOnly | .never => teardown s

/-- Normal stream completion (R112), by FINAL_FLUSH (D4). -/
def completeStream (s : State) : State :=
  match s.config.finalFlush with
  | .never => teardown s
  | .normalOnly | .always => beginFinalFlush s

/-! ### Conditions -/

/-- The cause of a condition (R181). -/
def Condition.cause : Condition → Cause
  | .invalidRegisterIndex _ _ => .invalidRegisterIndex
  | .streamTruncated _ _ => .streamTruncated
  | .sendFailure _ => .sendFailure
  | .interrupt => .interrupt

/-- The code of a cause (R181). -/
def Cause.code : Cause → Nat
  | .normal => 0
  | .invalidRegisterIndex => 1
  | .streamTruncated => 2
  | .sendFailure => 3
  | .interrupt => 4

/-- The operation in progress is given up: its messages are not sent, its record is not applied (R145, R127). -/
def abandon (s : State) : State := { s with stage := .fetch, outbox := [] }

/-- One entry more in `diag` (R12). -/
def report (e : Condition) (s : State) : State := { s with diag := s.diag ++ [e] }

/-- `raise` (R13): the fixed response to each condition. An invalid register index is absorbed (R183); a truncated stream
(R184), a failed Send (R185) and the interrupt (R186) end the session through TEARDOWN; a Send that fails inside the
teardown RESET ends that RESET only (R190). -/
def raise (e : Condition) (s : State) : State :=
  match e with
  | .invalidRegisterIndex _ _ => { report e s with warnCount := s.warnCount + 1, stage := .fetch }
  | .streamTruncated _ _ => endWithoutFlush (abandon { report e s with truncated := true, exitCause := e.cause })
  | .sendFailure _ =>
    if s.phase = .endReset then abandon { report e s with exitCause := e.cause }
    else teardown (abandon { report e s with exitCause := e.cause })
  | .interrupt => endWithoutFlush (abandon { report e s with exitCause := e.cause })

/-! ### The sink -/

/-- The sink's answer to the next Send; a Send past the listed answers is accepted (R12; log 3). -/
def sinkAccepts (s : State) : Bool := s.answers.headD true

/-- The sink has accepted a message (R12). -/
def accept (m : Message) (s : State) : State := { s with out := s.out ++ [m], answers := s.answers.tail }

/-- The sink has turned a message away: nothing is appended (R12). -/
def turnAway (s : State) : State := { s with answers := s.answers.tail }

/-- `Send` (R12), followed at once by `after` when the answer is `ok`; when it is `fail`, SendFailure is raised (R14). -/
def sendThen (m : Message) (after : State → State) (s : State) : Host.Outcome State Fault Refusal :=
  if s.sinkOpen then
    if sinkAccepts s then .next (after (accept m s)) else .next (raise (.sendFailure m) (turnAway s))
  else .fault .sinkNotHeld

/-- `Send` with nothing to follow. -/
def send (m : Message) (s : State) : Host.Outcome State Fault Refusal := sendThen m id s

/-- The commit of a FLUSH (R143): all sixteen slots at once (R25). Outside a FLUSH there is none (R170). -/
def commitFlush (s : State) : State := if flushing s then { s with c := s.x } else s

/-! ### One event -/

/-- The wait of GATE (R121): the interrupt ends it and the record is discarded (R127); else the record stays (R200). -/
def waitInGate (i : Instr) (s : State) : State :=
  if s.irqPending then raise .interrupt s else { s with stage := .gate i }

/-- Steps 6 and 7 of the event loop (R92): clock tracking (R95), then the slot write (R96). -/
def applyWrite (slot : Fin 16) (k : Tick) (v : Byte) (s : State) : State :=
  { s with prevClock := k, prevValid := true, x := s.x.set slot v, stage := .fetch }

/-- Step 5 at a boundary (R93): FLUSH begins before the event's own write, which waits for it. -/
def startEventFlush (i : Instr) (s : State) : State := beginFlush { s with stage := .flush i }

/-- Steps 3 to 7 of the event loop for an accepted event (R92, R96). After the FLUSH of step 5 the record goes on with
steps 6 and 7. -/
def writeEvent (i : Instr) (slot : Fin 16) (k : Tick) (v : Byte) (s : State) : Host.Outcome State Fault Refusal :=
  if inEventFlush s then .next (applyWrite slot k v s)
  else if tooEarly k s then .next (waitInGate i s)
  else if boundary k s then .next (startEventFlush i s)
  else .next (applyWrite slot k v s)

/-- Steps 3 and 4 of the event loop for an invalid event (R92, R94), gated by GATE_INVALID (D3). -/
def dropEvent (i : Instr) (k : Tick) (r : Byte) (s : State) : Host.Outcome State Fault Refusal :=
  if s.config.gateInvalid && tooEarly k s then .next (waitInGate i s)
  else .next (raise (.invalidRegisterIndex (s.pc - 1) r) s)

/-! ### Session start and inputs -/

/-- Session start, steps 1 to 4 of R211: the sink opened, the guard registered, the state created with the values of R38,
the start RESET begun. PREV_CLOCK_INIT gives the previous-clock state (D2). The inputs are kept. -/
def startSession (s : State) : State :=
  { State.reset with
    prevValid := decide (s.config.prevClockInit = .zero),
    config := s.config, trace := s.trace, now := s.now, arrivals := s.arrivals, answers := s.answers }

/-- The start RESET is over (R211 step 5): the anchor is captured (R125) and the event loop begins. -/
def beginRun (s : State) : State := { s with anchor := s.now, phase := .run }

/-- The arrival past the listed ones: one tick passes and no interrupt comes (log 3). -/
def quietArrival : Arrival := { elapsed := Config.tickNs, irq := false }

/-- The time and interrupt inputs act before a step (R31, R37; log 14): time never goes back, a signalled interrupt stays. -/
def sampleInputs (s : State) : State :=
  let a := s.arrivals.headD quietArrival
  { s with now := s.now + a.elapsed, irqPending := s.irqPending || a.irq, arrivals := s.arrivals.tail }

end Sys2Proof.Machine
end

