-- ==== Sys2Proof/Machine/InvalidEvents.lean ====
section
/-! DEFINITION. The invalid events (spec 40_event_fetch_and_writes.md R94, 60_exceptions.md R183): one meaning per table row.
The value byte of the record has no effect. -/

namespace Sys2Proof.Machine

open Sys2Proof

/-- `INVALID`, registers 0x0E to 0x0F (R94). -/
def execInvalid0E (k : Tick) (r v : Byte) (s : State) : Host.Outcome State Fault Refusal :=
  dropEvent (.invalid0E k r v) k r s

/-- `INVALID`, registers 0x10 to 0x1F (R94). -/
def execInvalid10 (k : Tick) (r v : Byte) (s : State) : Host.Outcome State Fault Refusal :=
  dropEvent (.invalid10 k r v) k r s

/-- `INVALID`, registers 0x20 to 0x3F (R94). -/
def execInvalid20 (k : Tick) (r v : Byte) (s : State) : Host.Outcome State Fault Refusal :=
  dropEvent (.invalid20 k r v) k r s

/-- `INVALID`, registers 0x40 to 0x7F (R94). -/
def execInvalid40 (k : Tick) (r v : Byte) (s : State) : Host.Outcome State Fault Refusal :=
  dropEvent (.invalid40 k r v) k r s

/-- `INVALID`, registers 0x80 to 0xFF (R94). -/
def execInvalid80 (k : Tick) (r v : Byte) (s : State) : Host.Outcome State Fault Refusal :=
  dropEvent (.invalid80 k r v) k r s

end Sys2Proof.Machine
end

