-- ==== Sys2Proof/Machine/OutputMessages.lean ====
section
/-! DEFINITION. The messages (spec 30_encoding.md R75, R76, R86): the Send of each row of format `MSG` (R12, R14). -/

namespace Sys2Proof.Machine

open Sys2Proof

/-- `MSG.A_FREQ_HI` (R152, R161): `Send(ADDR.A_FREQ_HI, payload)`. -/
def execMsgAFreqHi (p : Byte) (s : State) : Host.Outcome State Fault Refusal :=
  send ⟨s.config.addr.aFreqHi, p⟩ s

/-- `MSG.A_FREQ_LO` (R153, R161): `Send(ADDR.A_FREQ_LO, payload)`. -/
def execMsgAFreqLo (p : Byte) (s : State) : Host.Outcome State Fault Refusal :=
  send ⟨s.config.addr.aFreqLo, p⟩ s

/-- `MSG.B_FREQ_HI` (R152, R161): `Send(ADDR.B_FREQ_HI, payload)`. -/
def execMsgBFreqHi (p : Byte) (s : State) : Host.Outcome State Fault Refusal :=
  send ⟨s.config.addr.bFreqHi, p⟩ s

/-- `MSG.B_FREQ_LO` (R153, R161): `Send(ADDR.B_FREQ_LO, payload)`. -/
def execMsgBFreqLo (p : Byte) (s : State) : Host.Outcome State Fault Refusal :=
  send ⟨s.config.addr.bFreqLo, p⟩ s

/-- `MSG.C_FREQ_HI` (R152, R161): `Send(ADDR.C_FREQ_HI, payload)`. -/
def execMsgCFreqHi (p : Byte) (s : State) : Host.Outcome State Fault Refusal :=
  send ⟨s.config.addr.cFreqHi, p⟩ s

/-- `MSG.C_FREQ_LO` (R153, R161): `Send(ADDR.C_FREQ_LO, payload)`. -/
def execMsgCFreqLo (p : Byte) (s : State) : Host.Outcome State Fault Refusal :=
  send ⟨s.config.addr.cFreqLo, p⟩ s

/-- `MSG.NOISE` (R157, R161): `Send(ADDR.NOISE, payload)`. -/
def execMsgNoise (p : Byte) (s : State) : Host.Outcome State Fault Refusal :=
  send ⟨s.config.addr.noise, p⟩ s

/-- `MSG.MIXER` (R158, R161): `Send(ADDR.MIXER, payload)`. -/
def execMsgMixer (p : Byte) (s : State) : Host.Outcome State Fault Refusal :=
  send ⟨s.config.addr.mixer, p⟩ s

/-- `MSG.A_LEVEL` (R159, R161): `Send(ADDR.A_LEVEL, payload)`. -/
def execMsgALevel (p : Byte) (s : State) : Host.Outcome State Fault Refusal :=
  send ⟨s.config.addr.aLevel, p⟩ s

/-- `MSG.B_LEVEL` (R159, R161): `Send(ADDR.B_LEVEL, payload)`. -/
def execMsgBLevel (p : Byte) (s : State) : Host.Outcome State Fault Refusal :=
  send ⟨s.config.addr.bLevel, p⟩ s

/-- `MSG.C_LEVEL` (R159, R161): `Send(ADDR.C_LEVEL, payload)`. -/
def execMsgCLevel (p : Byte) (s : State) : Host.Outcome State Fault Refusal :=
  send ⟨s.config.addr.cLevel, p⟩ s

/-- `MSG.ENV_FREQ_HI` (R154, R161): `Send(ADDR.ENV_FREQ_HI, payload)`. -/
def execMsgEnvFreqHi (p : Byte) (s : State) : Host.Outcome State Fault Refusal :=
  send ⟨s.config.addr.envFreqHi, p⟩ s

/-- `MSG.ENV_FREQ_MID` (R155, R161): `Send(ADDR.ENV_FREQ_MID, payload)`. -/
def execMsgEnvFreqMid (p : Byte) (s : State) : Host.Outcome State Fault Refusal :=
  send ⟨s.config.addr.envFreqMid, p⟩ s

/-- `MSG.ENV_FREQ_LO` (R156, R161): `Send(ADDR.ENV_FREQ_LO, payload)`. -/
def execMsgEnvFreqLo (p : Byte) (s : State) : Host.Outcome State Fault Refusal :=
  send ⟨s.config.addr.envFreqLo, p⟩ s

/-- `MSG.ENV_SHAPE` (R160, R161): `Send(ADDR.ENV_SHAPE, payload)`. -/
def execMsgEnvShape (p : Byte) (s : State) : Host.Outcome State Fault Refusal :=
  send ⟨s.config.addr.envShape, p⟩ s

/-- `MSG.LATCH_ENABLE` (R142): `Send(ADDR.LATCH, LATCH_ENABLE)`, the begin-update of a FLUSH. -/
def execMsgLatchEnable (s : State) : Host.Outcome State Fault Refusal :=
  send ⟨s.config.addr.latch, s.config.latchEnable⟩ s

/-- `MSG.LATCH_DISABLE` (R143, R170): `Send(ADDR.LATCH, LATCH_DISABLE)`, the end-update of a FLUSH or a RESET; accepted at
the end of a FLUSH, the commit follows at once. -/
def execMsgLatchDisable (s : State) : Host.Outcome State Fault Refusal :=
  sendThen ⟨s.config.addr.latch, s.config.latchDisable⟩ commitFlush s

/-- `MSG.LATCH_INIT` (R170): `Send(ADDR.LATCH, LATCH_INIT)`, the begin-update of a RESET. -/
def execMsgLatchInit (s : State) : Host.Outcome State Fault Refusal :=
  send ⟨s.config.addr.latch, s.config.latchInit⟩ s

end Sys2Proof.Machine
end

