-- ==== Sys2Proof/Machine/WriteEvents.lean ====
section
/-! DEFINITION. The fourteen slot writes (spec 40_event_fetch_and_writes.md R97 to R110). -/

namespace Sys2Proof.Machine

open Sys2Proof

/-- `WR0` (R97): `x[0] <- value`, the low byte of the channel A frequency. -/
def execWr0 (k : Tick) (v : Byte) (s : State) : Host.Outcome State Fault Refusal :=
  writeEvent (.wr0 k v) 0 k v s

/-- `WR1` (R98): `x[1] <- value`, the high bits of the channel A frequency. -/
def execWr1 (k : Tick) (v : Byte) (s : State) : Host.Outcome State Fault Refusal :=
  writeEvent (.wr1 k v) 1 k v s

/-- `WR2` (R99): `x[2] <- value`, the low byte of the channel B frequency. -/
def execWr2 (k : Tick) (v : Byte) (s : State) : Host.Outcome State Fault Refusal :=
  writeEvent (.wr2 k v) 2 k v s

/-- `WR3` (R100): `x[3] <- value`, the high bits of the channel B frequency. -/
def execWr3 (k : Tick) (v : Byte) (s : State) : Host.Outcome State Fault Refusal :=
  writeEvent (.wr3 k v) 3 k v s

/-- `WR4` (R101): `x[4] <- value`, the low byte of the channel C frequency. -/
def execWr4 (k : Tick) (v : Byte) (s : State) : Host.Outcome State Fault Refusal :=
  writeEvent (.wr4 k v) 4 k v s

/-- `WR5` (R102): `x[5] <- value`, the high bits of the channel C frequency. -/
def execWr5 (k : Tick) (v : Byte) (s : State) : Host.Outcome State Fault Refusal :=
  writeEvent (.wr5 k v) 5 k v s

/-- `WR6` (R103): `x[6] <- value`, the noise frequency. -/
def execWr6 (k : Tick) (v : Byte) (s : State) : Host.Outcome State Fault Refusal :=
  writeEvent (.wr6 k v) 6 k v s

/-- `WR7` (R104): `x[7] <- value`, the mixer. -/
def execWr7 (k : Tick) (v : Byte) (s : State) : Host.Outcome State Fault Refusal :=
  writeEvent (.wr7 k v) 7 k v s

/-- `WR8` (R105): `x[8] <- value`, the channel A level. -/
def execWr8 (k : Tick) (v : Byte) (s : State) : Host.Outcome State Fault Refusal :=
  writeEvent (.wr8 k v) 8 k v s

/-- `WR9` (R106): `x[9] <- value`, the channel B level. -/
def execWr9 (k : Tick) (v : Byte) (s : State) : Host.Outcome State Fault Refusal :=
  writeEvent (.wr9 k v) 9 k v s

/-- `WR10` (R107): `x[10] <- value`, the channel C level. -/
def execWr10 (k : Tick) (v : Byte) (s : State) : Host.Outcome State Fault Refusal :=
  writeEvent (.wr10 k v) 10 k v s

/-- `WR11` (R108): `x[11] <- value`, the low byte of the envelope frequency. -/
def execWr11 (k : Tick) (v : Byte) (s : State) : Host.Outcome State Fault Refusal :=
  writeEvent (.wr11 k v) 11 k v s

/-- `WR12` (R109): `x[12] <- value`, the high byte of the envelope frequency. -/
def execWr12 (k : Tick) (v : Byte) (s : State) : Host.Outcome State Fault Refusal :=
  writeEvent (.wr12 k v) 12 k v s

/-- `WR13` (R110): `x[13] <- value`, the envelope shape. -/
def execWr13 (k : Tick) (v : Byte) (s : State) : Host.Outcome State Fault Refusal :=
  writeEvent (.wr13 k v) 13 k v s

end Sys2Proof.Machine
end

