-- ==== Sys2Proof/Machine/Dispatch.lean ====
section
/-! DEFINITION. The dispatch: one arm per row of the opcode table. -/

namespace Sys2Proof.Machine

open Sys2Proof

def exec (i : Instr) (s : State) : Host.Outcome State Fault Refusal :=
  match i with
  | .wr0 k v => Sys2Proof.Machine.execWr0 k v s
  | .wr1 k v => Sys2Proof.Machine.execWr1 k v s
  | .wr2 k v => Sys2Proof.Machine.execWr2 k v s
  | .wr3 k v => Sys2Proof.Machine.execWr3 k v s
  | .wr4 k v => Sys2Proof.Machine.execWr4 k v s
  | .wr5 k v => Sys2Proof.Machine.execWr5 k v s
  | .wr6 k v => Sys2Proof.Machine.execWr6 k v s
  | .wr7 k v => Sys2Proof.Machine.execWr7 k v s
  | .wr8 k v => Sys2Proof.Machine.execWr8 k v s
  | .wr9 k v => Sys2Proof.Machine.execWr9 k v s
  | .wr10 k v => Sys2Proof.Machine.execWr10 k v s
  | .wr11 k v => Sys2Proof.Machine.execWr11 k v s
  | .wr12 k v => Sys2Proof.Machine.execWr12 k v s
  | .wr13 k v => Sys2Proof.Machine.execWr13 k v s
  | .invalid0E k r v => Sys2Proof.Machine.execInvalid0E k r v s
  | .invalid10 k r v => Sys2Proof.Machine.execInvalid10 k r v s
  | .invalid20 k r v => Sys2Proof.Machine.execInvalid20 k r v s
  | .invalid40 k r v => Sys2Proof.Machine.execInvalid40 k r v s
  | .invalid80 k r v => Sys2Proof.Machine.execInvalid80 k r v s
  | .msgAFreqHi p => Sys2Proof.Machine.execMsgAFreqHi p s
  | .msgAFreqLo p => Sys2Proof.Machine.execMsgAFreqLo p s
  | .msgBFreqHi p => Sys2Proof.Machine.execMsgBFreqHi p s
  | .msgBFreqLo p => Sys2Proof.Machine.execMsgBFreqLo p s
  | .msgCFreqHi p => Sys2Proof.Machine.execMsgCFreqHi p s
  | .msgCFreqLo p => Sys2Proof.Machine.execMsgCFreqLo p s
  | .msgNoise p => Sys2Proof.Machine.execMsgNoise p s
  | .msgMixer p => Sys2Proof.Machine.execMsgMixer p s
  | .msgALevel p => Sys2Proof.Machine.execMsgALevel p s
  | .msgBLevel p => Sys2Proof.Machine.execMsgBLevel p s
  | .msgCLevel p => Sys2Proof.Machine.execMsgCLevel p s
  | .msgEnvFreqHi p => Sys2Proof.Machine.execMsgEnvFreqHi p s
  | .msgEnvFreqMid p => Sys2Proof.Machine.execMsgEnvFreqMid p s
  | .msgEnvFreqLo p => Sys2Proof.Machine.execMsgEnvFreqLo p s
  | .msgEnvShape p => Sys2Proof.Machine.execMsgEnvShape p s
  | .msgLatchEnable => Sys2Proof.Machine.execMsgLatchEnable s
  | .msgLatchDisable => Sys2Proof.Machine.execMsgLatchDisable s
  | .msgLatchInit => Sys2Proof.Machine.execMsgLatchInit s

end Sys2Proof.Machine
end

