-- ==== Sys2Proof/Machine/Sequencer.lean ====
section
/-! DEFINITION. The sequencer: which instruction the next step runs, or what the core does between instructions
(spec 40_event_fetch_and_writes.md R90 to R92; 60_exceptions.md R188; 70_reset_and_hazards.md R211). -/

namespace Sys2Proof.Machine

open Sys2Proof

/-- What a step does: run an instruction in a state, or settle in a state by an action of the core that has no encoding. -/
inductive Action where
  | run (i : Instr) (s : State)
  | settle (s : State)
deriving DecidableEq, Repr

/-- The record index past the record just read (R26, R91). -/
def pastRecord (s : State) : State := { s with pc := s.pc + 1 }

/-- The messages left after the one being sent. -/
def withOutbox (rest : List Instr) (s : State) : State := { s with outbox := rest }

/-- FETCH (R91): a whole record runs with `pc` past it; end of input at a record boundary completes the stream (R112);
end of input within a record truncates it (R113). -/
def fetch (s : State) : Action :=
  match memRead s.trace (10 * s.pc) 10 with
  | .bytes bs => .run (decodeRecord (recordOfBytes bs)) (pastRecord s)
  | .short 0 => .settle (completeStream s)
  | .short (k + 1) => .settle (raise (.streamTruncated s.pc (k + 1)) s)

/-- The event loop between two Sends (R92): a record in GATE or after its FLUSH goes on; else step 1, the interrupt, and
step 2, FETCH. -/
def eventLoop (s : State) : Action :=
  match s.stage with
  | .gate i => .run i s
  | .flush i => .run i s
  | .fetch => if s.irqPending then .settle (raise .interrupt s) else fetch s

/-- The core with no message left to send: the start RESET (R211 step 5), a final FLUSH (R112) or a teardown RESET (R188)
is over, or the event loop goes on. -/
def advance (s : State) : Action :=
  match s.phase with
  | .off => .settle (startSession s)
  | .startReset => .settle (beginRun s)
  | .run => eventLoop s
  | .finalFlush => .settle (teardown s)
  | .endReset => .settle (closeSink s)
  | .done => .settle s

/-- The next message of the FLUSH or RESET in progress (R14), or else what the phase asks for. -/
def sendOrAdvance (s : State) : Action :=
  match s.outbox with
  | i :: rest => .run i (withOutbox rest s)
  | [] => advance s

/-- One step's action. Before a session the step is session start (log 8); in DONE nothing happens any more (R33, R116;
log 16); in every other phase the inputs act first (log 14). -/
def nextAction (s : State) : Action :=
  match s.phase with
  | .off => .settle (startSession s)
  | .done => .settle s
  | .startReset | .run | .finalFlush | .endReset => sendOrAdvance (sampleInputs s)

/-! ### Placing an instruction where the next step runs it -/

/-- A phase in which messages are sent: the one `s` is in, or RUN where `s` is before or after a session. -/
def sendingPhase (p : Phase) : Phase :=
  match p with
  | .off | .done => .run
  | .startReset | .run | .finalFlush | .endReset => p

/-- `i` placed as the next message to send. -/
def placeMessage (i : Instr) (s : State) : State :=
  { s with outbox := i :: s.outbox, phase := sendingPhase s.phase, sinkOpen := true }

/-- A record placed as the next one to fetch: its bytes at `10 * pc`, the event loop about to fetch with no interrupt to
come, and the time input at or past the record's deadline (log 12). -/
def placeRecord (bs : List Byte) (s : State) : State :=
  { s with
    trace := s.trace.writeBytes (10 * s.pc) bs, phase := .run, stage := .fetch, outbox := [], sinkOpen := true,
    irqPending := false, arrivals := [], now := max s.now (deadline (recordClock (recordOfBytes bs)) s) }

/-- A table word placed where the next step runs it: a message in the outbox, a record in the trace (log 12). -/
def placeWord (nbits w : Nat) (s : State) : State :=
  match decodeTableWord nbits w with
  | some i => if i.isMessage then placeMessage i s else placeRecord (tableWordBytes nbits w) s
  | none => placeRecord (tableWordBytes nbits w) s

end Sys2Proof.Machine
end

