-- ==== Sys2Proof/Safety.lean ====
section
/-! DEFINITION. What counts as a sound state of a session, and what a row of format `MSG` is on the wire: the terms the
statements use. -/

namespace Sys2Proof

open Sys2Proof.Machine

/-- The message a row of format `MSG` stands for under a configuration (R75, R76, R85); a record stands for none. -/
def onWire (cfg : Config) : Instr → Option Message
  | .msgAFreqHi p => some ⟨cfg.addr.aFreqHi, p⟩
  | .msgAFreqLo p => some ⟨cfg.addr.aFreqLo, p⟩
  | .msgBFreqHi p => some ⟨cfg.addr.bFreqHi, p⟩
  | .msgBFreqLo p => some ⟨cfg.addr.bFreqLo, p⟩
  | .msgCFreqHi p => some ⟨cfg.addr.cFreqHi, p⟩
  | .msgCFreqLo p => some ⟨cfg.addr.cFreqLo, p⟩
  | .msgNoise p => some ⟨cfg.addr.noise, p⟩
  | .msgMixer p => some ⟨cfg.addr.mixer, p⟩
  | .msgALevel p => some ⟨cfg.addr.aLevel, p⟩
  | .msgBLevel p => some ⟨cfg.addr.bLevel, p⟩
  | .msgCLevel p => some ⟨cfg.addr.cLevel, p⟩
  | .msgEnvFreqHi p => some ⟨cfg.addr.envFreqHi, p⟩
  | .msgEnvFreqMid p => some ⟨cfg.addr.envFreqMid, p⟩
  | .msgEnvFreqLo p => some ⟨cfg.addr.envFreqLo, p⟩
  | .msgEnvShape p => some ⟨cfg.addr.envShape, p⟩
  | .msgLatchEnable => some ⟨cfg.addr.latch, cfg.latchEnable⟩
  | .msgLatchDisable => some ⟨cfg.addr.latch, cfg.latchDisable⟩
  | .msgLatchInit => some ⟨cfg.addr.latch, cfg.latchInit⟩
  | .wr0 _ _ | .wr1 _ _ | .wr2 _ _ | .wr3 _ _ | .wr4 _ _ | .wr5 _ _ | .wr6 _ _ | .wr7 _ _
  | .wr8 _ _ | .wr9 _ _ | .wr10 _ _ | .wr11 _ _ | .wr12 _ _ | .wr13 _ _ => none
  | .invalid0E _ _ _ | .invalid10 _ _ _ | .invalid20 _ _ _ | .invalid40 _ _ _ | .invalid80 _ _ _ => none

/-- The messages a list of rows puts on the wire, in order. -/
def wire (cfg : Config) (rows : List Instr) : List Message := rows.filterMap (onWire cfg)

/-- A warning entry of `diag` (R183). -/
def isWarning : Condition → Bool
  | .invalidRegisterIndex _ _ => true
  | .streamTruncated _ _ | .sendFailure _ | .interrupt => false

/-- The invariant of a session: what holds of the state between any two steps. -/
structure Inv (s : State) : Prop where
  /-- the guard is set exactly from TEARDOWN on (R29, R188) -/
  guard : s.teardownDone = true ↔ s.phase = .endReset ∨ s.phase = .done
  /-- the sink is held exactly during the session (R30) -/
  sink : s.sinkOpen = true ↔ s.phase ≠ .off ∧ s.phase ≠ .done
  /-- the reserved slots hold zero (R22, R148) -/
  reserved : s.x[14] = 0 ∧ s.x[15] = 0 ∧ s.c[14] = 0 ∧ s.c[15] = 0
  /-- both banks are zero during a RESET and after the session (R39, R175) -/
  zeroed : s.phase = .startReset ∨ s.phase = .endReset ∨ s.phase = .done → s.x = Bank.zero ∧ s.c = Bank.zero
  /-- only messages with the payload bits of their row are queued (R77) -/
  queued : ∀ i ∈ s.outbox, i.isMessage = true ∧ i.wf = true
  /-- a record is in progress only in RUN (R33) -/
  inRun : s.stage ≠ .fetch → s.phase = .run
  /-- in RUN, messages are sent only by the FLUSH of step 5 (R92, R117) -/
  sending : s.phase = .run → s.outbox ≠ [] → inEventFlush s = true
  /-- after the session nothing is left to send (R33) -/
  quiet : s.phase = .done → s.outbox = []
  /-- what waits in GATE is a record (R121) -/
  waiting : ∀ i, s.stage = .gate i → i.isMessage = false
  /-- what a FLUSH holds back is a slot write whose deadline has passed (R93, R128) -/
  heldBack : ∀ i, s.stage = .flush i → ∃ k, i.writeClock? = some k ∧ s.anchor + k.toNat * 125 ≤ s.now
  /-- no event has been applied before its deadline (R128) -/
  timely : s.prevValid = true → s.anchor + s.prevClock.toNat * 125 ≤ s.now
  /-- before the event loop a previous clock can only be the 0 of PREV_CLOCK_INIT (D2) -/
  noEventYet : s.phase = .startReset → s.prevValid = true → s.prevClock = 0
  /-- the anchor lies in the past (R125) -/
  anchored : s.anchor ≤ s.now
  /-- the trace has its canonical form (log 9) -/
  traceForm : s.trace.wf = true
  /-- the configuration is one the spec allows (R7, R75) -/
  configForm : s.config.wf = true
  /-- `warn_count` counts the warnings of `diag` (R32) -/
  warnings : s.warnCount = (s.diag.filter isWarning).length
  /-- a cause is recorded only when the session is ending (R32) -/
  running : s.phase = .startReset ∨ s.phase = .run → s.exitCause = .normal
  /-- no record is fetched past the end of the trace (R26) -/
  withinTrace : 10 * s.pc ≤ s.trace.len

end Sys2Proof
end

