-- ==== Sys2Proof/Certificates/Slice0/Obligations.lean ====
section
/-! DEFINITION. The statements about the model, for the provers. -/

namespace Sys2Proof.Claims

open Sys2Proof Sys2Proof.Machine

/-! ### Shapes shared by the statements: one shape, instantiated by name for each row it covers -/

/-- A 12-bit frequency by arithmetic: the low byte and the 4 low bits of the high slot (R78). -/
abbrev frequency (lo hi : Byte) : Nat := lo.toNat + 256 * (hi.toNat % 16)

/-- A 16-bit envelope frequency by arithmetic (R78). -/
abbrev envelope (lo hi : Byte) : Nat := lo.toNat + 256 * hi.toNat

/-- The rows among `rows` whose word in the opcode table has one of these addresses. -/
def rowsTo (addresses : List Byte) (rows : List Instr) : List Instr :=
  rows.filter fun i => addresses.contains ((encode i).headD 0)

/-- The deadline of a clock (R120). -/
abbrev due (k : Tick) (s : State) : Nat := s.anchor + k.toNat * 125

/-- `t` is `s` with TEARDOWN entered for a cause, its entry made in `diag` (R188, R181). -/
def entersTeardown (cause : Cause) (e : Condition) (s : State) : State :=
  { s with exitCause := cause, diag := s.diag ++ [e], x := Bank.zero, c := Bank.zero, outbox := resetMessages,
           stage := .fetch, teardownDone := true, phase := .endReset }

/-- A slot write completes: merged into the batch in progress, the first of the session, or after its boundary's FLUSH. -/
def SlotWriteCompletes (mk : Tick → Byte → Instr) (slot : Fin 16) : Prop :=
  ∀ (k : Tick) (v : Byte) (s : State),
    (inEventFlush s = true ∨
      (inEventFlush s = false ∧ due k s ≤ s.now ∧ (s.prevValid = false ∨ s.prevClock = k))) →
    exec (mk k v) s = .next { s with prevClock := k, prevValid := true, x := s.x.set slot v, stage := .fetch }

/-- A slot write of another clock than the previous event's queues the FLUSH of the banks as they stand, and waits for it. -/
def BoundaryFlushesFirst (mk : Tick → Byte → Instr) : Prop :=
  ∀ (k : Tick) (v : Byte) (s : State),
    inEventFlush s = false → due k s ≤ s.now → s.prevValid = true → s.prevClock ≠ k →
    exec (mk k v) s = .next { s with stage := .flush (mk k v), outbox := flushMessages s.config s.x s.c }

/-- A slot write before its deadline stays in GATE and does nothing else. -/
def WriteWaits (mk : Tick → Byte → Instr) : Prop :=
  ∀ (k : Tick) (v : Byte) (s : State),
    inEventFlush s = false → s.now < due k s → s.irqPending = false →
    exec (mk k v) s = .next { s with stage := .gate (mk k v) }

/-- An invalid event before its deadline stays in GATE and does nothing else. -/
def InvalidWaits (mk : Tick → Byte → Byte → Instr) : Prop :=
  ∀ (k : Tick) (r v : Byte) (s : State),
    s.config.gateInvalid = true → s.now < due k s → s.irqPending = false →
    exec (mk k r v) s = .next { s with stage := .gate (mk k r v) }

/-- The interrupt ends the wait of a slot write: the record is discarded and TEARDOWN entered. -/
def WriteWaitInterrupted (mk : Tick → Byte → Instr) : Prop :=
  ∀ (k : Tick) (v : Byte) (s : State),
    inEventFlush s = false → s.now < due k s → s.irqPending = true → s.teardownDone = false →
    s.config.finalFlush ≠ .always →
    exec (mk k v) s = .next (entersTeardown .interrupt .interrupt s)

/-- The interrupt ends the wait of an invalid event. -/
def InvalidWaitInterrupted (mk : Tick → Byte → Byte → Instr) : Prop :=
  ∀ (k : Tick) (r v : Byte) (s : State),
    s.config.gateInvalid = true → s.now < due k s → s.irqPending = true → s.teardownDone = false →
    s.config.finalFlush ≠ .always →
    exec (mk k r v) s = .next (entersTeardown .interrupt .interrupt s)

/-- An invalid event is dropped with a warning and changes nothing else. -/
def InvalidIsDropped (mk : Tick → Byte → Byte → Instr) : Prop :=
  ∀ (k : Tick) (r v : Byte) (s : State),
    (s.config.gateInvalid = true → due k s ≤ s.now) →
    exec (mk k r v) s = .next { s with
      warnCount := s.warnCount + 1, diag := s.diag ++ [.invalidRegisterIndex (s.pc - 1) r], stage := .fetch }

/-- A field message is sent to its address and changes nothing but the sink's side. -/
def FieldMessageIsSent (mk : Byte → Instr) (address : Addr → Byte) : Prop :=
  ∀ (p : Byte) (s : State) (rest : List Bool),
    s.sinkOpen = true → s.answers = true :: rest →
    exec (mk p) s = .next { s with out := s.out ++ [⟨address s.config.addr, p⟩], answers := rest }

/-- What a slot write leaves alone. Only an interrupt in GATE changes more than its slot, the clock tracking and the
sequencer's place. -/
def SlotWriteFrame (mk : Tick → Byte → Instr) (slot : Fin 16) : Prop :=
  ∀ (k : Tick) (v : Byte) (s t : State), exec (mk k v) s = .next t →
    (t.pc = s.pc ∧ t.anchor = s.anchor ∧ t.sinkOpen = s.sinkOpen ∧ t.irqPending = s.irqPending ∧
      t.warnCount = s.warnCount ∧ t.truncated = s.truncated ∧ t.config = s.config ∧ t.now = s.now ∧
      t.arrivals = s.arrivals ∧ t.answers = s.answers ∧ t.out = s.out) ∧
    (∀ a : Nat, t.trace.read a = s.trace.read a) ∧
    (s.irqPending = false →
      t.c = s.c ∧ (∀ j : Fin 16, j ≠ slot → t.x[j] = s.x[j]) ∧ t.phase = s.phase ∧
      t.teardownDone = s.teardownDone ∧ t.exitCause = s.exitCause ∧ t.diag = s.diag)

/-- What an invalid event leaves alone when no interrupt is pending. -/
def InvalidFrame (mk : Tick → Byte → Byte → Instr) : Prop :=
  ∀ (k : Tick) (r v : Byte) (s t : State), exec (mk k r v) s = .next t → s.irqPending = false →
    t.x = s.x ∧ t.c = s.c ∧ t.prevValid = s.prevValid ∧ t.prevClock = s.prevClock ∧ t.out = s.out ∧
    t.outbox = s.outbox ∧ t.pc = s.pc ∧ t.anchor = s.anchor ∧ t.phase = s.phase ∧ t.exitCause = s.exitCause ∧
    t.teardownDone = s.teardownDone ∧ t.sinkOpen = s.sinkOpen ∧ t.truncated = s.truncated ∧
    (∀ a : Nat, t.trace.read a = s.trace.read a)

/-- A slot write at a boundary, from GATE to its write: the batch of the old banks is sent, committed, then the slot is
written. -/
def BoundaryEventRunsThrough (mk : Tick → Byte → Instr) (slot : Fin 16) : Prop :=
  ∀ (k : Tick) (v : Byte) (s : State),
    s.phase = .run → s.stage = .gate (mk k v) → s.outbox = [] → s.sinkOpen = true →
    s.prevValid = true → s.prevClock ≠ k → due k s ≤ s.now →
    (∀ b ∈ s.answers.take (flushMessages s.config s.x s.c).length, b = true) →
    ∃ t : State, Sys2Proof.core.run ((flushMessages s.config s.x s.c).length + 2) s = .next t ∧
      t.out = s.out ++ wire s.config (flushMessages s.config s.x s.c) ∧ t.c = s.x ∧ t.x = s.x.set slot v ∧
      t.prevValid = true ∧ t.prevClock = k ∧ t.phase = .run ∧ t.stage = .fetch ∧ t.outbox = [] ∧ t.pc = s.pc ∧
      t.diag = s.diag ∧ t.exitCause = s.exitCause

/-- Two banks agree on every bit that an encoder reads (R21). -/
def UsedBitsAgree (x y : Bank) : Prop :=
  x[0] = y[0] ∧ x[1].toNat % 16 = y[1].toNat % 16 ∧ x[2] = y[2] ∧ x[3].toNat % 16 = y[3].toNat % 16 ∧
  x[4] = y[4] ∧ x[5].toNat % 16 = y[5].toNat % 16 ∧ x[6].toNat % 32 = y[6].toNat % 32 ∧
  x[7].toNat % 64 = y[7].toNat % 64 ∧ x[8].toNat % 32 = y[8].toNat % 32 ∧ x[9].toNat % 32 = y[9].toNat % 32 ∧
  x[10].toNat % 32 = y[10].toNat % 32 ∧ x[11] = y[11] ∧ x[12] = y[12] ∧ x[13].toNat % 16 = y[13].toNat % 16

end Sys2Proof.Claims

open Sys2Proof Sys2Proof.Machine Sys2Proof.Claims

/-! ### Encoding -/

/-- Decoding an encoded well-formed row gives the row back, every operand at every value. -/
def Obligations.DecodeOfEncodeGivesEveryRowBack : Prop :=
  ∀ i : Instr, i.wf = true → decode (encode i) = .ok i

/-- Any ten bytes decode to one well-formed record row, which encodes to the same ten bytes. -/
def Obligations.AnyTenBytesAreOneRecord : Prop :=
  ∀ bs : List Byte, bs.length = 10 →
    ∃ i : Instr, decode bs = .ok i ∧ i.wf = true ∧ i.isMessage = false ∧ encode i = bs

/-- R50: the clock is the first eight bytes, most significant first; register and value are the last two. -/
def Obligations.RecordFieldsAreBigEndian : Prop :=
  ∀ b0 b1 b2 b3 b4 b5 b6 b7 b8 b9 : Byte,
    let w := recordOfBytes [b0, b1, b2, b3, b4, b5, b6, b7, b8, b9]
    (recordClock w).toNat = b0.toNat * 2 ^ 56 + b1.toNat * 2 ^ 48 + b2.toNat * 2 ^ 40 + b3.toNat * 2 ^ 32 +
      b4.toNat * 2 ^ 24 + b5.toNat * 2 ^ 16 + b6.toNat * 2 ^ 8 + b7.toNat ∧
    recordRegister w = b8 ∧ recordValue w = b9

/-- R79: the register byte 0 to 13 selects the slot write of that number, and no other register does. -/
def Obligations.RegisterByteSelectsTheSlotWrite : Prop :=
  ∀ w : Rec,
    let k := recordClock w
    let r := recordRegister w
    let v := recordValue w
    (r = 0 → decodeRecord w = .wr0 k v) ∧
    (r = 1 → decodeRecord w = .wr1 k v) ∧
    (r = 2 → decodeRecord w = .wr2 k v) ∧
    (r = 3 → decodeRecord w = .wr3 k v) ∧
    (r = 4 → decodeRecord w = .wr4 k v) ∧
    (r = 5 → decodeRecord w = .wr5 k v) ∧
    (r = 6 → decodeRecord w = .wr6 k v) ∧
    (r = 7 → decodeRecord w = .wr7 k v) ∧
    (r = 8 → decodeRecord w = .wr8 k v) ∧
    (r = 9 → decodeRecord w = .wr9 k v) ∧
    (r = 10 → decodeRecord w = .wr10 k v) ∧
    (r = 11 → decodeRecord w = .wr11 k v) ∧
    (r = 12 → decodeRecord w = .wr12 k v) ∧
    (r = 13 → decodeRecord w = .wr13 k v) ∧
    ((decodeRecord w).writeClock?.isSome = true ↔ r.toNat ≤ 13)

/-- Registers 14 to 255 decode to the `INVALID` row whose range holds them (R80, R86). -/
def Obligations.OtherRegistersDecodeAsInvalid : Prop :=
  ∀ w : Rec,
    let k := recordClock w
    let r := recordRegister w
    let v := recordValue w
    (14 ≤ r.toNat ∧ r.toNat ≤ 15 → decodeRecord w = .invalid0E k r v) ∧
    (16 ≤ r.toNat ∧ r.toNat ≤ 31 → decodeRecord w = .invalid10 k r v) ∧
    (32 ≤ r.toNat ∧ r.toNat ≤ 63 → decodeRecord w = .invalid20 k r v) ∧
    (64 ≤ r.toNat ∧ r.toNat ≤ 127 → decodeRecord w = .invalid40 k r v) ∧
    (128 ≤ r.toNat → decodeRecord w = .invalid80 k r v)

/-- Words written out from the spec's encodings decode to their rows (V49, V40, V42, V43; R77). -/
def Obligations.WrittenOutWordsDecode : Prop :=
  decode [0x01, 0x02, 0x03, 0x04, 0x05, 0x06, 0x07, 0x08, 0x00, 0xAA] = .ok (.wr0 72623859790382856 0xAA) ∧
  decode [0, 0, 0, 0, 0, 0, 0, 9, 0x0E, 0x77] = .ok (.invalid0E 9 14 0x77) ∧
  decode [0, 0, 0, 0, 0, 0, 0, 5, 0xC8, 0x01] = .ok (.invalid80 5 200 1) ∧
  decode [255, 255, 255, 255, 255, 255, 255, 255, 255, 255] = .ok (.invalid80 18446744073709551615 255 255) ∧
  decode [0x34, 0x50] = .ok (.msgAFreqLo 0x50) ∧
  decode [0x50, 0x7F] = .ok .msgLatchInit

/-- Under the default configuration a message row sends exactly the address and payload of its word in the opcode table
(R86). -/
def Obligations.MessageRowsSendTheirTableWord : Prop :=
  ∀ (i : Instr) (s : State) (rest : List Bool), i.isMessage = true → s.config = Config.default →
    s.sinkOpen = true → s.answers = true :: rest →
    ∃ (a p : Byte) (t : State), encode i = [a, p] ∧ exec i s = .next t ∧ t.out = s.out ++ [⟨a, p⟩]

/-! ### Operands and encoders -/

/-- R78: the field values are assembled from the slots by width, low byte in the lower slot. -/
def Obligations.FieldValuesAreAssembledFromSlots : Prop :=
  ∀ (x : Bank) (lo hi v : Byte),
    fA x = frequency x[0] x[1] ∧ fB x = frequency x[2] x[3] ∧ fC x = frequency x[4] x[5] ∧
    noiseValue v = v.toNat % 32 ∧ mixerValue v = v.toNat % 64 ∧ levelValue v = v.toNat % 32 ∧
    envValue lo hi = envelope lo hi ∧ shapeValue v = v.toNat % 16

/-- R152, R153: the high payload is `f[11:5]`, the low payload `f[4:0]` with two zeros below. -/
def Obligations.FrequencyEncodersPackSevenAndFiveBits : Prop :=
  ∀ f : Nat, (encFreqHi f).toNat = f / 32 % 128 ∧ (encFreqLo f).toNat = f % 32 * 4

/-- R154, R155, R156: the envelope payloads by the literal formulas, with the shifts the spec takes. -/
def Obligations.EnvelopeEncodersFollowTheFormulas : Prop :=
  ∀ e : Nat, (encEnvHi e).toNat = e / 512 % 128 ∧
    (encEnvMid Config.default.envMidShift e).toNat = e / 128 % 128 ∧
    (encEnvLo Config.default.envLowShift e).toNat = e / 4 % 4 * 32

/-- R157 to R160: the one-slot encoders mask to the field width, then shift. -/
def Obligations.OneSlotEncodersMaskThenShift : Prop :=
  ∀ v : Nat, (encNoise v).toNat = v % 32 * 4 ∧ (encMixer v).toNat = v % 64 * 2 ∧
    (encLevel v).toNat = v % 32 * 4 ∧ (encShape v).toNat = v % 16 * 8

/-- A 12-bit frequency can be recovered from its two payloads (R163). -/
def Obligations.FrequencyIsRecoverableFromItsPayloads : Prop :=
  ∀ f g : Nat, f < 4096 → g < 4096 → encFreqHi f = encFreqHi g → encFreqLo f = encFreqLo g → f = g

/-- Envelope frequencies that differ only in bits 6:4 and 1:0 give the same three payloads (R163, R218); any other
difference shows. -/
def Obligations.EnvelopeBitsThatNeverArrive : Prop :=
  ∀ e g : Nat, e < 65536 → g < 65536 →
    ((encEnvHi e = encEnvHi g ∧ encEnvMid 7 e = encEnvMid 7 g ∧ encEnvLo 2 e = encEnvLo 2 g) ↔
      (e / 128 = g / 128 ∧ e / 4 % 4 = g / 4 % 4))

/-! ### The messages of a FLUSH -/

/-- Every message a FLUSH queues has the payload bits its row fixes at 0, for any configuration (R77, R150). -/
def Obligations.FlushQueuesOnlyTableRows : Prop :=
  ∀ (cfg : Config) (x y : Bank), ∀ i ∈ flushMessages cfg x y, i.isMessage = true ∧ i.wf = true

/-- R132, R133, R134: the two messages of a channel's frequency, high before low, are sent when one of its two slots differs,
and neither of them otherwise. -/
def Obligations.FrequencyMessagesFollowTheirSlots : Prop :=
  ∀ (cfg : Config) (x y : Bank),
    wire cfg (rowsTo [20, 52] (flushMessages cfg x y)) =
      (if x[0] ≠ y[0] ∨ x[1] ≠ y[1] then
        [⟨cfg.addr.aFreqHi, BitVec.ofNat 8 (frequency x[0] x[1] / 32)⟩,
         ⟨cfg.addr.aFreqLo, BitVec.ofNat 8 (frequency x[0] x[1] % 32 * 4)⟩] else []) ∧
    wire cfg (rowsTo [21, 53] (flushMessages cfg x y)) =
      (if x[2] ≠ y[2] ∨ x[3] ≠ y[3] then
        [⟨cfg.addr.bFreqHi, BitVec.ofNat 8 (frequency x[2] x[3] / 32)⟩,
         ⟨cfg.addr.bFreqLo, BitVec.ofNat 8 (frequency x[2] x[3] % 32 * 4)⟩] else []) ∧
    wire cfg (rowsTo [22, 54] (flushMessages cfg x y)) =
      (if x[4] ≠ y[4] ∨ x[5] ≠ y[5] then
        [⟨cfg.addr.cFreqHi, BitVec.ofNat 8 (frequency x[4] x[5] / 32)⟩,
         ⟨cfg.addr.cFreqLo, BitVec.ofNat 8 (frequency x[4] x[5] % 32 * 4)⟩] else [])

/-- R135 to R139, R141: a one-slot field's message is sent when its slot differs, and not otherwise; its payload is the
masked slot, shifted. -/
def Obligations.OneSlotMessagesFollowTheirSlot : Prop :=
  ∀ (cfg : Config) (x y : Bank),
    wire cfg (rowsTo [23] (flushMessages cfg x y)) =
      (if x[6] ≠ y[6] then [⟨cfg.addr.noise, BitVec.ofNat 8 (x[6].toNat % 32 * 4)⟩] else []) ∧
    wire cfg (rowsTo [24] (flushMessages cfg x y)) =
      (if x[7] ≠ y[7] then [⟨cfg.addr.mixer, BitVec.ofNat 8 (x[7].toNat % 64 * 2)⟩] else []) ∧
    wire cfg (rowsTo [25] (flushMessages cfg x y)) =
      (if x[8] ≠ y[8] then [⟨cfg.addr.aLevel, BitVec.ofNat 8 (x[8].toNat % 32 * 4)⟩] else []) ∧
    wire cfg (rowsTo [26] (flushMessages cfg x y)) =
      (if x[9] ≠ y[9] then [⟨cfg.addr.bLevel, BitVec.ofNat 8 (x[9].toNat % 32 * 4)⟩] else []) ∧
    wire cfg (rowsTo [27] (flushMessages cfg x y)) =
      (if x[10] ≠ y[10] then [⟨cfg.addr.cLevel, BitVec.ofNat 8 (x[10].toNat % 32 * 4)⟩] else []) ∧
    wire cfg (rowsTo [31] (flushMessages cfg x y)) =
      (if x[13] ≠ y[13] then [⟨cfg.addr.envShape, BitVec.ofNat 8 (x[13].toNat % 16 * 8)⟩] else [])

/-- R140: the three messages of the envelope frequency, high before mid before low, are sent when one of its two slots
differs, and none of them otherwise; with the shifts the spec takes (R8, C3). -/
def Obligations.EnvelopeMessagesFollowTheirSlots : Prop :=
  ∀ (cfg : Config) (x y : Bank), cfg.envMidShift = 7 → cfg.envLowShift = 2 →
    wire cfg (rowsTo [28, 29, 30] (flushMessages cfg x y)) =
      (if x[11] ≠ y[11] ∨ x[12] ≠ y[12] then
        [⟨cfg.addr.envFreqHi, BitVec.ofNat 8 (envelope x[11] x[12] / 512)⟩,
         ⟨cfg.addr.envFreqMid, BitVec.ofNat 8 (envelope x[11] x[12] / 128 % 128)⟩,
         ⟨cfg.addr.envFreqLo, BitVec.ofNat 8 (envelope x[11] x[12] / 4 % 4 * 32)⟩] else [])

/-- A FLUSH begins with the begin-update, ends with the end-update, and its addresses follow the one order of R130; the
order inside is the spec's decision (R131, D6). -/
def Obligations.FlushKeepsTheFixedOrder : Prop :=
  ∀ (cfg : Config) (x y : Bank),
    ((flushMessages cfg x y).map fun i => (encode i).headD 0).Sublist
      [80, 20, 52, 21, 53, 22, 54, 23, 24, 25, 26, 27, 28, 29, 30, 31, 80] ∧
    (flushMessages cfg x y).head? = some .msgLatchEnable ∧
    (flushMessages cfg x y).getLast? = some .msgLatchDisable

/-- A FLUSH is the bare framing exactly when no slot of a field differs (R144); slots 14 and 15 do not count (R148). -/
def Obligations.UnchangedBanksFlushAnEmptyBatch : Prop :=
  ∀ (cfg : Config) (x y : Bank),
    flushMessages cfg x y = [.msgLatchEnable, .msgLatchDisable] ↔ ∀ i : Fin 16, i.val < 14 → x[i] = y[i]

/-- Bits above the field width never reach a payload: two banks alike in the used bits, and differing from the committed
bank in the same slots, flush the same messages (R23, R81, R147). -/
def Obligations.MaskedBitsNeverReachAPayload : Prop :=
  ∀ (cfg : Config) (x x' y : Bank), UsedBitsAgree x x' →
    (∀ i : Fin 16, i.val < 14 → (x[i] = y[i] ↔ x'[i] = y[i])) →
    flushMessages cfg x y = flushMessages cfg x' y

/-! ### What each row does -/

/-- WR0 to WR13 complete: the slot takes the whole byte, the clock is tracked, and nothing else changes (R95, R96). The
premise that no boundary lies before, or that its FLUSH is over, is the order of R92. -/
def Obligations.SlotWritesComplete : Prop :=
  SlotWriteCompletes .wr0 0 ∧
  SlotWriteCompletes .wr1 1 ∧
  SlotWriteCompletes .wr2 2 ∧
  SlotWriteCompletes .wr3 3 ∧
  SlotWriteCompletes .wr4 4 ∧
  SlotWriteCompletes .wr5 5 ∧
  SlotWriteCompletes .wr6 6 ∧
  SlotWriteCompletes .wr7 7 ∧
  SlotWriteCompletes .wr8 8 ∧
  SlotWriteCompletes .wr9 9 ∧
  SlotWriteCompletes .wr10 10 ∧
  SlotWriteCompletes .wr11 11 ∧
  SlotWriteCompletes .wr12 12 ∧
  SlotWriteCompletes .wr13 13

/-- WR0 to WR13 at a batch boundary: the FLUSH is queued before the event's own write (R92, R93). -/
def Obligations.BoundaryQueuesTheFlushFirst : Prop :=
  BoundaryFlushesFirst .wr0 ∧
  BoundaryFlushesFirst .wr1 ∧
  BoundaryFlushesFirst .wr2 ∧
  BoundaryFlushesFirst .wr3 ∧
  BoundaryFlushesFirst .wr4 ∧
  BoundaryFlushesFirst .wr5 ∧
  BoundaryFlushesFirst .wr6 ∧
  BoundaryFlushesFirst .wr7 ∧
  BoundaryFlushesFirst .wr8 ∧
  BoundaryFlushesFirst .wr9 ∧
  BoundaryFlushesFirst .wr10 ∧
  BoundaryFlushesFirst .wr11 ∧
  BoundaryFlushesFirst .wr12 ∧
  BoundaryFlushesFirst .wr13

/-- Every record waits in GATE until its deadline, invalid ones by GATE_INVALID (R121; D3). -/
def Obligations.EarlyRecordsWaitInTheGate : Prop :=
  WriteWaits .wr0 ∧
  WriteWaits .wr1 ∧
  WriteWaits .wr2 ∧
  WriteWaits .wr3 ∧
  WriteWaits .wr4 ∧
  WriteWaits .wr5 ∧
  WriteWaits .wr6 ∧
  WriteWaits .wr7 ∧
  WriteWaits .wr8 ∧
  WriteWaits .wr9 ∧
  WriteWaits .wr10 ∧
  WriteWaits .wr11 ∧
  WriteWaits .wr12 ∧
  WriteWaits .wr13 ∧
  InvalidWaits .invalid0E ∧
  InvalidWaits .invalid10 ∧
  InvalidWaits .invalid20 ∧
  InvalidWaits .invalid40 ∧
  InvalidWaits .invalid80

/-- A pending interrupt ends the wait of GATE (R127, the spec's decision D9). -/
def Obligations.InterruptEndsTheWait : Prop :=
  WriteWaitInterrupted .wr0 ∧
  WriteWaitInterrupted .wr1 ∧
  WriteWaitInterrupted .wr2 ∧
  WriteWaitInterrupted .wr3 ∧
  WriteWaitInterrupted .wr4 ∧
  WriteWaitInterrupted .wr5 ∧
  WriteWaitInterrupted .wr6 ∧
  WriteWaitInterrupted .wr7 ∧
  WriteWaitInterrupted .wr8 ∧
  WriteWaitInterrupted .wr9 ∧
  WriteWaitInterrupted .wr10 ∧
  WriteWaitInterrupted .wr11 ∧
  WriteWaitInterrupted .wr12 ∧
  WriteWaitInterrupted .wr13 ∧
  InvalidWaitInterrupted .invalid0E ∧
  InvalidWaitInterrupted .invalid10 ∧
  InvalidWaitInterrupted .invalid20 ∧
  InvalidWaitInterrupted .invalid40 ∧
  InvalidWaitInterrupted .invalid80

/-- R183: an invalid event whose GATE is over is dropped with a warning; nothing else changes. -/
def Obligations.InvalidEventsAreDropped : Prop :=
  InvalidIsDropped .invalid0E ∧
  InvalidIsDropped .invalid10 ∧
  InvalidIsDropped .invalid20 ∧
  InvalidIsDropped .invalid40 ∧
  InvalidIsDropped .invalid80

/-- The fifteen field messages are sent to their addresses (R161, R76, R12). -/
def Obligations.FieldMessagesAreSent : Prop :=
  FieldMessageIsSent .msgAFreqHi (·.aFreqHi) ∧
  FieldMessageIsSent .msgAFreqLo (·.aFreqLo) ∧
  FieldMessageIsSent .msgBFreqHi (·.bFreqHi) ∧
  FieldMessageIsSent .msgBFreqLo (·.bFreqLo) ∧
  FieldMessageIsSent .msgCFreqHi (·.cFreqHi) ∧
  FieldMessageIsSent .msgCFreqLo (·.cFreqLo) ∧
  FieldMessageIsSent .msgNoise (·.noise) ∧
  FieldMessageIsSent .msgMixer (·.mixer) ∧
  FieldMessageIsSent .msgALevel (·.aLevel) ∧
  FieldMessageIsSent .msgBLevel (·.bLevel) ∧
  FieldMessageIsSent .msgCLevel (·.cLevel) ∧
  FieldMessageIsSent .msgEnvFreqHi (·.envFreqHi) ∧
  FieldMessageIsSent .msgEnvFreqMid (·.envFreqMid) ∧
  FieldMessageIsSent .msgEnvFreqLo (·.envFreqLo) ∧
  FieldMessageIsSent .msgEnvShape (·.envShape)

/-- The begin-updates are sent with their payloads, and so is the end-update of a RESET (R142, R170; payloads D5). -/
def Obligations.LatchMessagesAreSent : Prop :=
  ∀ (s : State) (rest : List Bool), s.sinkOpen = true → s.answers = true :: rest →
    exec .msgLatchEnable s =
      .next { s with out := s.out ++ [⟨s.config.addr.latch, s.config.latchEnable⟩], answers := rest } ∧
    exec .msgLatchInit s =
      .next { s with out := s.out ++ [⟨s.config.addr.latch, s.config.latchInit⟩], answers := rest } ∧
    (s.phase = .startReset ∨ s.phase = .endReset → exec .msgLatchDisable s =
      .next { s with out := s.out ++ [⟨s.config.addr.latch, s.config.latchDisable⟩], answers := rest })

/-- The end-update of a FLUSH commits the whole pending bank in the same step (R143). -/
def Obligations.EndUpdateOfAFlushCommits : Prop :=
  ∀ (s : State) (rest : List Bool), s.sinkOpen = true → s.answers = true :: rest →
    (s.phase = .run ∧ inEventFlush s = true) ∨ s.phase = .finalFlush →
    exec .msgLatchDisable s =
      .next { s with out := s.out ++ [⟨s.config.addr.latch, s.config.latchDisable⟩], answers := rest, c := s.x }

/-- R185: a Send that fails outside TEARDOWN appends nothing to `out`, is recorded and enters TEARDOWN, for every row. -/
def Obligations.FailedSendEntersTeardown : Prop :=
  ∀ (i : Instr) (m : Message) (s : State) (rest : List Bool),
    i.isMessage = true → onWire s.config i = some m → s.sinkOpen = true → s.answers = false :: rest →
    s.phase ≠ .endReset → s.teardownDone = false →
    exec i s = .next { entersTeardown .sendFailure (.sendFailure m) s with answers := rest }

/-- A Send that fails inside the teardown RESET ends that RESET; no second TEARDOWN follows (R190, decision D10). -/
def Obligations.FailedSendInTeardownEndsTheReset : Prop :=
  ∀ (i : Instr) (m : Message) (s : State) (rest : List Bool),
    i.isMessage = true → onWire s.config i = some m → s.sinkOpen = true → s.answers = false :: rest →
    s.phase = .endReset →
    exec i s = .next { s with
      exitCause := .sendFailure, diag := s.diag ++ [.sendFailure m], outbox := [], stage := .fetch, answers := rest }

/-- The only stop of the model is a Send while the sink is not held (the model's choice, log 13): no row is refused, and a
record never stops. -/
def Obligations.OnlyASendWithoutSinkStops : Prop :=
  ∀ (i : Instr) (s : State),
    (∀ r : Refusal, exec i s ≠ .refused r) ∧
    (∀ f : Fault, exec i s = .fault f ↔ i.isMessage = true ∧ s.sinkOpen = false)

/-! ### Frames -/

/-- The frame of WR0 to WR13 (R96, R117). -/
def Obligations.SlotWritesLeaveTheRestAlone : Prop :=
  SlotWriteFrame .wr0 0 ∧
  SlotWriteFrame .wr1 1 ∧
  SlotWriteFrame .wr2 2 ∧
  SlotWriteFrame .wr3 3 ∧
  SlotWriteFrame .wr4 4 ∧
  SlotWriteFrame .wr5 5 ∧
  SlotWriteFrame .wr6 6 ∧
  SlotWriteFrame .wr7 7 ∧
  SlotWriteFrame .wr8 8 ∧
  SlotWriteFrame .wr9 9 ∧
  SlotWriteFrame .wr10 10 ∧
  SlotWriteFrame .wr11 11 ∧
  SlotWriteFrame .wr12 12 ∧
  SlotWriteFrame .wr13 13

/-- The frame of the five rows of invalid events (R94, R183). -/
def Obligations.InvalidEventsLeaveTheRestAlone : Prop :=
  InvalidFrame .invalid0E ∧
  InvalidFrame .invalid10 ∧
  InvalidFrame .invalid20 ∧
  InvalidFrame .invalid40 ∧
  InvalidFrame .invalid80

/-- The frame of the messages: no record, no clock, no anchor, no trace byte; and no bank, phase or cause either while the
sink accepts, but for the commit of an end-update (R143, R150, R170). -/
def Obligations.MessagesLeaveTheRestAlone : Prop :=
  ∀ (i : Instr) (s t : State), i.isMessage = true → exec i s = .next t →
    (t.pc = s.pc ∧ t.prevValid = s.prevValid ∧ t.prevClock = s.prevClock ∧ t.anchor = s.anchor ∧
      t.sinkOpen = s.sinkOpen ∧ t.irqPending = s.irqPending ∧ t.warnCount = s.warnCount ∧
      t.truncated = s.truncated ∧ t.config = s.config ∧ t.now = s.now ∧ t.arrivals = s.arrivals ∧
      t.answers = s.answers.tail) ∧
    (∀ a : Nat, t.trace.read a = s.trace.read a) ∧
    (sinkAccepts s = true →
      t.x = s.x ∧ t.phase = s.phase ∧ t.stage = s.stage ∧ t.outbox = s.outbox ∧ t.diag = s.diag ∧
      t.exitCause = s.exitCause ∧ t.teardownDone = s.teardownDone ∧
      (i ≠ .msgLatchDisable ∨ flushing s = false → t.c = s.c))

/-! ### The step -/

/-- Ten bytes at `10 * pc` that decode to a record make the step run that record, with `pc` past it (R91, R92). -/
def Obligations.StepRunsTheFetchedRecord : Prop :=
  ∀ (s : State) (bs : List Byte) (i : Instr), s.phase = .run → s.outbox = [] → s.stage = .fetch →
    (sampleInputs s).irqPending = false → bs.length = 10 →
    (∀ k < 10, s.trace.read (10 * s.pc + k) = bs[k]?) → decode bs = .ok i →
    step s = exec i { sampleInputs s with pc := s.pc + 1 }

/-- The message at the head of the outbox is what the step runs, in any phase of a session (R14). -/
def Obligations.StepRunsTheNextMessage : Prop :=
  ∀ (s : State) (i : Instr) (rest : List Instr), s.phase ≠ .off → s.phase ≠ .done → s.outbox = i :: rest →
    step s = exec i { sampleInputs s with outbox := rest }

/-- A record in GATE, or one whose FLUSH has been sent, is what the step goes on with (R92, R121). -/
def Obligations.StepResumesTheRecordInProgress : Prop :=
  ∀ (s : State) (i : Instr), s.phase = .run → s.outbox = [] → s.stage = .gate i ∨ s.stage = .flush i →
    step s = exec i (sampleInputs s)

/-- Step 1 of the event loop: a pending interrupt is taken before FETCH, whatever the trace holds (R186, R187; D9, D18). -/
def Obligations.InterruptIsTakenBeforeFetch : Prop :=
  ∀ s : State, s.phase = .run → s.outbox = [] → s.stage = .fetch → (sampleInputs s).irqPending = true →
    s.teardownDone = false → s.config.finalFlush ≠ .always →
    step s = .next (entersTeardown .interrupt .interrupt (sampleInputs s))

/-- The end of the trace at a record boundary starts the final FLUSH, also with nothing accepted (R112; D4). -/
def Obligations.EndOfTraceStartsTheFinalFlush : Prop :=
  ∀ s : State, s.phase = .run → s.outbox = [] → s.stage = .fetch → (sampleInputs s).irqPending = false →
    s.trace.len ≤ 10 * s.pc → s.config.finalFlush ≠ .never →
    step s = .next { sampleInputs s with phase := .finalFlush, outbox := flushMessages s.config s.x s.c }

/-- R184: the end of the trace within a record is recorded with its record index and byte count and enters TEARDOWN; no
FLUSH runs (the spec's value of FINAL_FLUSH). -/
def Obligations.TruncatedTraceEntersTeardown : Prop :=
  ∀ s : State, s.phase = .run → s.outbox = [] → s.stage = .fetch → (sampleInputs s).irqPending = false →
    10 * s.pc < s.trace.len → s.trace.len < 10 * s.pc + 10 → s.teardownDone = false →
    s.config.finalFlush = .normalOnly →
    step s = .next { entersTeardown .streamTruncated (.streamTruncated s.pc (s.trace.len - 10 * s.pc)) (sampleInputs s)
      with truncated := true }

/-- What follows a RESET or a final FLUSH that is over: the anchor is captured and the event loop entered (R211; the place
is decision D11); TEARDOWN is entered with the cause as it is (R112); the sink is closed (R188). -/
def Obligations.PhasesFollowOneAnother : Prop :=
  ∀ s : State, s.outbox = [] →
    (s.phase = .startReset → step s = .next { sampleInputs s with anchor := (sampleInputs s).now, phase := .run }) ∧
    (s.phase = .finalFlush → s.teardownDone = false → step s = .next { sampleInputs s with
      x := Bank.zero, c := Bank.zero, outbox := resetMessages, teardownDone := true, phase := .endReset }) ∧
    (s.phase = .endReset → step s = .next { sampleInputs s with sinkOpen := false, phase := .done })

/-- In DONE the core does nothing more, for any number of steps (R33, R116). That a step in DONE answers the same state, with
the time and the interrupt input not acting either, is the model's choice (log 16, log 14). -/
def Obligations.DoneIsFinal : Prop :=
  ∀ (s : State) (n : Nat), s.phase = .done → Sys2Proof.core.run n s = .next s

/-- Session start creates the state of the reset table over the environment's inputs (R211, R38; PREV_CLOCK_INIT as the
spec takes it, D2). That the step in OFF is session start is the model's choice (log 8); the two values the table leaves
out are those of log 4 and log 5, by way of `State.reset`. -/
def Obligations.SessionStartCreatesTheResetState : Prop :=
  ∀ s : State, s.phase = .off → s.config.prevClockInit = .noEvent →
    step s = .next { State.reset with
      config := s.config, trace := s.trace, now := s.now, arrivals := s.arrivals, answers := s.answers }

/-! ### Reset and invariants -/

/-- The values the reset table gives (R38), and nothing of the two it leaves out. -/
def Obligations.ResetHoldsTheTableOfCreationValues : Prop :=
  (∀ i : Fin 16, State.reset.x[i] = 0 ∧ State.reset.c[i] = 0) ∧ State.reset.pc = 0 ∧ State.reset.prevValid = false ∧
  State.reset.teardownDone = false ∧ State.reset.sinkOpen = true ∧ State.reset.irqPending = false ∧
  State.reset.warnCount = 0 ∧ State.reset.truncated = false ∧ State.reset.exitCause.code = 0 ∧
  State.reset.phase = .startReset ∧ State.reset.out = [] ∧ State.reset.diag = []

/-- The session's invariant holds at reset. -/
def Obligations.ResetMeetsTheSessionInvariant : Prop := Inv State.reset

/-- Every step keeps the session's invariant, from every state that has it. -/
def Obligations.EveryStepKeepsTheSessionInvariant : Prop :=
  ∀ s t : State, Inv s → step s = .next t → Inv t

/-- No step of a session stops: from every state with the invariant, with any inputs, there is a next state. -/
def Obligations.NoStepOfASessionStops : Prop :=
  ∀ s : State, Inv s → ∃ t : State, step s = .next t

/-- R25 step by step: the committed bank stays, is zeroed, or becomes the whole pending bank in the step whose Send is the
end-update. -/
def Obligations.CommittedBankChangesOnlyAsAWhole : Prop :=
  ∀ s t : State, step s = .next t →
    t.c = s.c ∨ t.c = Bank.zero ∨
    (t.c = s.x ∧ t.x = s.x ∧ (s.phase = .run ∨ s.phase = .finalFlush) ∧
      t.out = s.out ++ [⟨s.config.addr.latch, s.config.latchDisable⟩])

/-- The pending bank stays, is zeroed, or takes one byte in one of the slots 0 to 13 (R22). -/
def Obligations.PendingBankChangesOneWritableSlot : Prop :=
  ∀ s t : State, step s = .next t →
    t.x = s.x ∨ t.x = Bank.zero ∨ ∃ (slot : Fin 16) (v : Byte), slot.val < 14 ∧ t.x = s.x.set slot v

/-- No step writes the trace or the configuration, and time never goes back (R64, R37, R213). -/
def Obligations.StepsNeverWriteTraceOrConfiguration : Prop :=
  ∀ s t : State, step s = .next t →
    t.config = s.config ∧ t.trace = s.trace ∧ (∀ a : Nat, t.trace.read a = s.trace.read a) ∧ s.now ≤ t.now

/-- Within a session a step appends at most one message to `out` and one entry to `diag`, and removes none (R12). -/
def Obligations.OutputOnlyGrows : Prop :=
  ∀ s t : State, s.phase ≠ .off → step s = .next t →
    (t.out = s.out ∨ ∃ m : Message, t.out = s.out ++ [m]) ∧ (t.diag = s.diag ∨ ∃ e : Condition, t.diag = s.diag ++ [e])

/-- Within a session `pc` moves by one, past a whole record, or not at all (R26, R91); the anchor is written only on
entering RUN (R28; that this is the place is the spec's decision D11, R125, log 22). -/
def Obligations.RecordIndexAndAnchorMoveOnlyAsStated : Prop :=
  ∀ s t : State, s.phase ≠ .off → step s = .next t →
    (t.pc = s.pc ∨ (s.phase = .run ∧ t.pc = s.pc + 1 ∧ 10 * s.pc + 10 ≤ s.trace.len)) ∧
    (t.anchor = s.anchor ∨ (s.phase = .startReset ∧ t.phase = .run ∧ t.anchor = t.now))

/-- TEARDOWN is one-shot: once its guard is set it stays set, and what is left to send only shrinks, so no second RESET is
queued (R189). -/
def Obligations.TeardownRunsOnce : Prop :=
  ∀ s t : State, Inv s → s.teardownDone = true → step s = .next t →
    t.teardownDone = true ∧ t.outbox <:+ s.outbox ∧ (t.phase = .endReset ∨ t.phase = .done)

/-! ### Runs of several steps -/

/-- A FLUSH sends its messages in order one by one with the committed bank unchanged until, with the end-update, the whole
pending bank is committed; the pending bank, phase, place in the loop, clock tracking, `pc` and `diag` are then as before
(R130, R143, R25). -/
def Obligations.FlushRunsToItsCommit : Prop :=
  ∀ s : State, flushing s = true → s.sinkOpen = true → s.outbox = flushMessages s.config s.x s.c →
    (∀ b ∈ s.answers.take s.outbox.length, b = true) →
    (∀ n < s.outbox.length, ∃ t : State, Sys2Proof.core.run n s = .next t ∧
      t.c = s.c ∧ t.x = s.x ∧ t.out = s.out ++ wire s.config (s.outbox.take n)) ∧
    ∃ t : State, Sys2Proof.core.run s.outbox.length s = .next t ∧
      t.c = s.x ∧ t.x = s.x ∧ t.out = s.out ++ wire s.config s.outbox ∧ t.outbox = [] ∧ t.phase = s.phase ∧
      t.stage = s.stage ∧ t.prevClock = s.prevClock ∧ t.prevValid = s.prevValid ∧ t.pc = s.pc ∧ t.diag = s.diag

/-- A Send that fails inside a FLUSH ends it: the messages before it stay in `out`, the failed one is recorded, the event is
not applied, and TEARDOWN is entered (R145, R185). -/
def Obligations.FailedSendAbandonsTheFlush : Prop :=
  ∀ (s : State) (n : Nat) (rest : List Bool), flushing s = true → s.sinkOpen = true → s.teardownDone = false →
    s.outbox = flushMessages s.config s.x s.c → n < s.outbox.length → s.answers = List.replicate n true ++ false :: rest →
    ∃ (t : State) (m : Message), Sys2Proof.core.run (n + 1) s = .next t ∧
      t.out = s.out ++ wire s.config (s.outbox.take n) ∧ (s.outbox[n]?).bind (onWire s.config) = some m ∧
      t.diag = s.diag ++ [.sendFailure m] ∧ t.exitCause = .sendFailure ∧ t.phase = .endReset ∧ t.teardownDone = true ∧
      t.x = Bank.zero ∧ t.c = Bank.zero ∧ t.outbox = resetMessages ∧ t.stage = .fetch ∧
      t.prevClock = s.prevClock ∧ t.prevValid = s.prevValid ∧ t.pc = s.pc

/-- WR0 to WR13 at a batch boundary from GATE to the write: the whole batch of the banks before the write is sent and
committed, then the slot is written (R92, R93, R130). -/
def Obligations.EventAtABoundaryFlushesThenWrites : Prop :=
  BoundaryEventRunsThrough .wr0 0 ∧
  BoundaryEventRunsThrough .wr1 1 ∧
  BoundaryEventRunsThrough .wr2 2 ∧
  BoundaryEventRunsThrough .wr3 3 ∧
  BoundaryEventRunsThrough .wr4 4 ∧
  BoundaryEventRunsThrough .wr5 5 ∧
  BoundaryEventRunsThrough .wr6 6 ∧
  BoundaryEventRunsThrough .wr7 7 ∧
  BoundaryEventRunsThrough .wr8 8 ∧
  BoundaryEventRunsThrough .wr9 9 ∧
  BoundaryEventRunsThrough .wr10 10 ∧
  BoundaryEventRunsThrough .wr11 11 ∧
  BoundaryEventRunsThrough .wr12 12 ∧
  BoundaryEventRunsThrough .wr13 13

/-- RESET sends the same seventeen messages from any state; the start RESET then enters RUN with the anchor captured, the
teardown RESET closes the sink (R170, R171, R172). -/
def Obligations.ResetSendsItsSeventeenMessages : Prop :=
  ∀ s : State, s.sinkOpen = true → s.outbox = resetMessages → (∀ b ∈ s.answers.take 17, b = true) →
    s.config = Config.default → s.phase = .startReset ∨ s.phase = .endReset →
    ∃ t : State, Sys2Proof.core.run 18 s = .next t ∧
      t.out = s.out ++
        [⟨80, 127⟩, ⟨20, 0⟩, ⟨52, 0⟩, ⟨21, 0⟩, ⟨53, 0⟩, ⟨22, 0⟩, ⟨54, 0⟩, ⟨23, 0⟩, ⟨24, 0⟩, ⟨25, 0⟩, ⟨26, 0⟩,
         ⟨27, 0⟩, ⟨28, 0⟩, ⟨29, 0⟩, ⟨30, 0⟩, ⟨31, 0⟩, ⟨80, 0⟩] ∧
      t.x = s.x ∧ t.c = s.c ∧ t.outbox = [] ∧ t.pc = s.pc ∧ t.diag = s.diag ∧
      (s.phase = .startReset → t.phase = .run ∧ t.anchor = t.now ∧ t.sinkOpen = true) ∧
      (s.phase = .endReset → t.phase = .done ∧ t.anchor = s.anchor ∧ t.sinkOpen = false)

/-- TEARDOWN ends in DONE whatever the sink answers, with both banks zero and the sink released; the other registers keep
their values, but for the cause when one of its Sends fails (the values at DONE: R39). That DONE is reached after a failed
Send too, and that closing the sink always succeeds, is the spec's decision D10 (R190, U9; log 21). -/
def Obligations.TeardownAlwaysReachesDone : Prop :=
  ∀ s : State, Inv s → s.phase = .endReset →
    ∃ t : State, Sys2Proof.core.run (s.outbox.length + 1) s = .next t ∧ t.phase = .done ∧
      (∀ i : Fin 16, t.x[i] = 0 ∧ t.c[i] = 0) ∧ t.teardownDone = true ∧ t.sinkOpen = false ∧
      t.pc = s.pc ∧ t.prevValid = s.prevValid ∧ t.prevClock = s.prevClock ∧ t.anchor = s.anchor ∧
      t.warnCount = s.warnCount ∧ t.truncated = s.truncated ∧
      t.exitCause = if (s.answers.take s.outbox.length).all id then s.exitCause else .sendFailure

/-! ### The trace -/

/-- `MemRead` answers the bytes when the trace holds them all, and else how many were available (R12). -/
def Obligations.MemReadAnswersBytesOrShort : Prop :=
  ∀ (m : Memory) (addr n : Nat),
    (addr + n ≤ m.len → ∃ bs : List Byte, memRead m addr n = .bytes bs ∧ bs.length = n ∧
      ∀ k < n, m.read (addr + k) = bs[k]?) ∧
    (m.len < addr + n → memRead m addr n = .short (m.len - addr) ∧ (0 < n → m.len - addr < n))

/-! ### Constants -/

/-- R76: the default protocol addresses, pairwise distinct. -/
def Obligations.DefaultAddressesAreTheTable : Prop :=
  Config.default.addr.toList = [20, 52, 21, 53, 22, 54, 23, 24, 25, 26, 27, 28, 29, 30, 31, 80] ∧
  Config.default.addr.toList.Nodup ∧ Config.default.wf = true
end

