-- ==== Sys2Proof/Laws/Encoding.lean ====
section
/-! SUPPORT. Small lemmas about records: the ten bytes and the number they stand for, and what a record can decode to. -/

namespace Sys2Proof

/-- The ten bytes of a record stand for that record (R50, R71). -/
theorem recordOfBytes_recordBytes (w : Rec) : recordOfBytes (recordBytes w) = w := by
  simp only [recordOfBytes, recordBytes, List.foldl]
  ext i hi
  simp
  interval_cases i <;> simp

/-- A property of all nineteen record rows holds of whatever a register byte selects (R79, R80). -/
theorem decodeEvent_cases {P : Instr → Prop} (k : Tick) (r v : Byte)
    (write : ∀ i : Instr, i.writeClock? = some k → i.isMessage = false → P i)
    (invalid : ∀ i : Instr, i.writeClock? = none → i.isMessage = false → P i) : P (decodeEvent k r v) := by
  unfold decodeEvent
  iterate 14 refine iteInduction (fun _ => write _ rfl rfl) fun _ => ?_
  iterate 4 refine iteInduction (fun _ => invalid _ rfl rfl) fun _ => ?_
  exact invalid _ rfl rfl

/-- A record is never a message (R86). -/
theorem decodeRecord_isMessage (w : Rec) : (decodeRecord w).isMessage = false :=
  decodeEvent_cases (P := fun i => i.isMessage = false) _ _ _ (fun _ _ h => h) (fun _ _ h => h)

end Sys2Proof
end

