-- ==== Sys2Proof/Laws/State.lean ====
section
/-! SUPPORT. One lemma per field per named update of the state, each true by unfolding the update once. -/

namespace Sys2Proof.Machine

open Sys2Proof

/-! ### The bank of zeros -/

theorem Bank.zero_slots : ∀ j : Fin 16, Bank.zero[j] = 0 := by decide

@[simp] theorem Bank.zero_getElem (i : Nat) (h : i < 16) : Bank.zero[i] = 0 := Bank.zero_slots ⟨i, h⟩

/-! ### beginReset -/

@[simp] theorem beginReset_x (s : State) : (beginReset s).x = Bank.zero := rfl
@[simp] theorem beginReset_c (s : State) : (beginReset s).c = Bank.zero := rfl
@[simp] theorem beginReset_pc (s : State) : (beginReset s).pc = s.pc := rfl
@[simp] theorem beginReset_prevValid (s : State) : (beginReset s).prevValid = s.prevValid := rfl
@[simp] theorem beginReset_prevClock (s : State) : (beginReset s).prevClock = s.prevClock := rfl
@[simp] theorem beginReset_anchor (s : State) : (beginReset s).anchor = s.anchor := rfl
@[simp] theorem beginReset_teardownDone (s : State) : (beginReset s).teardownDone = s.teardownDone := rfl
@[simp] theorem beginReset_sinkOpen (s : State) : (beginReset s).sinkOpen = s.sinkOpen := rfl
@[simp] theorem beginReset_irqPending (s : State) : (beginReset s).irqPending = s.irqPending := rfl
@[simp] theorem beginReset_warnCount (s : State) : (beginReset s).warnCount = s.warnCount := rfl
@[simp] theorem beginReset_truncated (s : State) : (beginReset s).truncated = s.truncated := rfl
@[simp] theorem beginReset_exitCause (s : State) : (beginReset s).exitCause = s.exitCause := rfl
@[simp] theorem beginReset_phase (s : State) : (beginReset s).phase = s.phase := rfl
@[simp] theorem beginReset_stage (s : State) : (beginReset s).stage = s.stage := rfl
@[simp] theorem beginReset_outbox (s : State) : (beginReset s).outbox = resetMessages := rfl
@[simp] theorem beginReset_config (s : State) : (beginReset s).config = s.config := rfl
@[simp] theorem beginReset_trace (s : State) : (beginReset s).trace = s.trace := rfl
@[simp] theorem beginReset_now (s : State) : (beginReset s).now = s.now := rfl
@[simp] theorem beginReset_arrivals (s : State) : (beginReset s).arrivals = s.arrivals := rfl
@[simp] theorem beginReset_answers (s : State) : (beginReset s).answers = s.answers := rfl
@[simp] theorem beginReset_out (s : State) : (beginReset s).out = s.out := rfl
@[simp] theorem beginReset_diag (s : State) : (beginReset s).diag = s.diag := rfl

/-! ### beginFlush -/

@[simp] theorem beginFlush_x (s : State) : (beginFlush s).x = s.x := rfl
@[simp] theorem beginFlush_c (s : State) : (beginFlush s).c = s.c := rfl
@[simp] theorem beginFlush_pc (s : State) : (beginFlush s).pc = s.pc := rfl
@[simp] theorem beginFlush_prevValid (s : State) : (beginFlush s).prevValid = s.prevValid := rfl
@[simp] theorem beginFlush_prevClock (s : State) : (beginFlush s).prevClock = s.prevClock := rfl
@[simp] theorem beginFlush_anchor (s : State) : (beginFlush s).anchor = s.anchor := rfl
@[simp] theorem beginFlush_teardownDone (s : State) : (beginFlush s).teardownDone = s.teardownDone := rfl
@[simp] theorem beginFlush_sinkOpen (s : State) : (beginFlush s).sinkOpen = s.sinkOpen := rfl
@[simp] theorem beginFlush_irqPending (s : State) : (beginFlush s).irqPending = s.irqPending := rfl
@[simp] theorem beginFlush_warnCount (s : State) : (beginFlush s).warnCount = s.warnCount := rfl
@[simp] theorem beginFlush_truncated (s : State) : (beginFlush s).truncated = s.truncated := rfl
@[simp] theorem beginFlush_exitCause (s : State) : (beginFlush s).exitCause = s.exitCause := rfl
@[simp] theorem beginFlush_phase (s : State) : (beginFlush s).phase = s.phase := rfl
@[simp] theorem beginFlush_stage (s : State) : (beginFlush s).stage = s.stage := rfl
@[simp] theorem beginFlush_outbox (s : State) : (beginFlush s).outbox = flushMessages s.config s.x s.c := rfl
@[simp] theorem beginFlush_config (s : State) : (beginFlush s).config = s.config := rfl
@[simp] theorem beginFlush_trace (s : State) : (beginFlush s).trace = s.trace := rfl
@[simp] theorem beginFlush_now (s : State) : (beginFlush s).now = s.now := rfl
@[simp] theorem beginFlush_arrivals (s : State) : (beginFlush s).arrivals = s.arrivals := rfl
@[simp] theorem beginFlush_answers (s : State) : (beginFlush s).answers = s.answers := rfl
@[simp] theorem beginFlush_out (s : State) : (beginFlush s).out = s.out := rfl
@[simp] theorem beginFlush_diag (s : State) : (beginFlush s).diag = s.diag := rfl

/-! ### closeSink -/

@[simp] theorem closeSink_x (s : State) : (closeSink s).x = s.x := rfl
@[simp] theorem closeSink_c (s : State) : (closeSink s).c = s.c := rfl
@[simp] theorem closeSink_pc (s : State) : (closeSink s).pc = s.pc := rfl
@[simp] theorem closeSink_prevValid (s : State) : (closeSink s).prevValid = s.prevValid := rfl
@[simp] theorem closeSink_prevClock (s : State) : (closeSink s).prevClock = s.prevClock := rfl
@[simp] theorem closeSink_anchor (s : State) : (closeSink s).anchor = s.anchor := rfl
@[simp] theorem closeSink_teardownDone (s : State) : (closeSink s).teardownDone = s.teardownDone := rfl
@[simp] theorem closeSink_sinkOpen (s : State) : (closeSink s).sinkOpen = false := rfl
@[simp] theorem closeSink_irqPending (s : State) : (closeSink s).irqPending = s.irqPending := rfl
@[simp] theorem closeSink_warnCount (s : State) : (closeSink s).warnCount = s.warnCount := rfl
@[simp] theorem closeSink_truncated (s : State) : (closeSink s).truncated = s.truncated := rfl
@[simp] theorem closeSink_exitCause (s : State) : (closeSink s).exitCause = s.exitCause := rfl
@[simp] theorem closeSink_phase (s : State) : (closeSink s).phase = .done := rfl
@[simp] theorem closeSink_stage (s : State) : (closeSink s).stage = s.stage := rfl
@[simp] theorem closeSink_outbox (s : State) : (closeSink s).outbox = s.outbox := rfl
@[simp] theorem closeSink_config (s : State) : (closeSink s).config = s.config := rfl
@[simp] theorem closeSink_trace (s : State) : (closeSink s).trace = s.trace := rfl
@[simp] theorem closeSink_now (s : State) : (closeSink s).now = s.now := rfl
@[simp] theorem closeSink_arrivals (s : State) : (closeSink s).arrivals = s.arrivals := rfl
@[simp] theorem closeSink_answers (s : State) : (closeSink s).answers = s.answers := rfl
@[simp] theorem closeSink_out (s : State) : (closeSink s).out = s.out := rfl
@[simp] theorem closeSink_diag (s : State) : (closeSink s).diag = s.diag := rfl

/-! ### beginFinalFlush -/

@[simp] theorem beginFinalFlush_x (s : State) : (beginFinalFlush s).x = s.x := rfl
@[simp] theorem beginFinalFlush_c (s : State) : (beginFinalFlush s).c = s.c := rfl
@[simp] theorem beginFinalFlush_pc (s : State) : (beginFinalFlush s).pc = s.pc := rfl
@[simp] theorem beginFinalFlush_prevValid (s : State) : (beginFinalFlush s).prevValid = s.prevValid := rfl
@[simp] theorem beginFinalFlush_prevClock (s : State) : (beginFinalFlush s).prevClock = s.prevClock := rfl
@[simp] theorem beginFinalFlush_anchor (s : State) : (beginFinalFlush s).anchor = s.anchor := rfl
@[simp] theorem beginFinalFlush_teardownDone (s : State) : (beginFinalFlush s).teardownDone = s.teardownDone := rfl
@[simp] theorem beginFinalFlush_sinkOpen (s : State) : (beginFinalFlush s).sinkOpen = s.sinkOpen := rfl
@[simp] theorem beginFinalFlush_irqPending (s : State) : (beginFinalFlush s).irqPending = s.irqPending := rfl
@[simp] theorem beginFinalFlush_warnCount (s : State) : (beginFinalFlush s).warnCount = s.warnCount := rfl
@[simp] theorem beginFinalFlush_truncated (s : State) : (beginFinalFlush s).truncated = s.truncated := rfl
@[simp] theorem beginFinalFlush_exitCause (s : State) : (beginFinalFlush s).exitCause = s.exitCause := rfl
@[simp] theorem beginFinalFlush_phase (s : State) : (beginFinalFlush s).phase = .finalFlush := rfl
@[simp] theorem beginFinalFlush_stage (s : State) : (beginFinalFlush s).stage = s.stage := rfl
@[simp] theorem beginFinalFlush_outbox (s : State) : (beginFinalFlush s).outbox = flushMessages s.config s.x s.c := rfl
@[simp] theorem beginFinalFlush_config (s : State) : (beginFinalFlush s).config = s.config := rfl
@[simp] theorem beginFinalFlush_trace (s : State) : (beginFinalFlush s).trace = s.trace := rfl
@[simp] theorem beginFinalFlush_now (s : State) : (beginFinalFlush s).now = s.now := rfl
@[simp] theorem beginFinalFlush_arrivals (s : State) : (beginFinalFlush s).arrivals = s.arrivals := rfl
@[simp] theorem beginFinalFlush_answers (s : State) : (beginFinalFlush s).answers = s.answers := rfl
@[simp] theorem beginFinalFlush_out (s : State) : (beginFinalFlush s).out = s.out := rfl
@[simp] theorem beginFinalFlush_diag (s : State) : (beginFinalFlush s).diag = s.diag := rfl

/-! ### abandon -/

@[simp] theorem abandon_x (s : State) : (abandon s).x = s.x := rfl
@[simp] theorem abandon_c (s : State) : (abandon s).c = s.c := rfl
@[simp] theorem abandon_pc (s : State) : (abandon s).pc = s.pc := rfl
@[simp] theorem abandon_prevValid (s : State) : (abandon s).prevValid = s.prevValid := rfl
@[simp] theorem abandon_prevClock (s : State) : (abandon s).prevClock = s.prevClock := rfl
@[simp] theorem abandon_anchor (s : State) : (abandon s).anchor = s.anchor := rfl
@[simp] theorem abandon_teardownDone (s : State) : (abandon s).teardownDone = s.teardownDone := rfl
@[simp] theorem abandon_sinkOpen (s : State) : (abandon s).sinkOpen = s.sinkOpen := rfl
@[simp] theorem abandon_irqPending (s : State) : (abandon s).irqPending = s.irqPending := rfl
@[simp] theorem abandon_warnCount (s : State) : (abandon s).warnCount = s.warnCount := rfl
@[simp] theorem abandon_truncated (s : State) : (abandon s).truncated = s.truncated := rfl
@[simp] theorem abandon_exitCause (s : State) : (abandon s).exitCause = s.exitCause := rfl
@[simp] theorem abandon_phase (s : State) : (abandon s).phase = s.phase := rfl
@[simp] theorem abandon_stage (s : State) : (abandon s).stage = .fetch := rfl
@[simp] theorem abandon_outbox (s : State) : (abandon s).outbox = [] := rfl
@[simp] theorem abandon_config (s : State) : (abandon s).config = s.config := rfl
@[simp] theorem abandon_trace (s : State) : (abandon s).trace = s.trace := rfl
@[simp] theorem abandon_now (s : State) : (abandon s).now = s.now := rfl
@[simp] theorem abandon_arrivals (s : State) : (abandon s).arrivals = s.arrivals := rfl
@[simp] theorem abandon_answers (s : State) : (abandon s).answers = s.answers := rfl
@[simp] theorem abandon_out (s : State) : (abandon s).out = s.out := rfl
@[simp] theorem abandon_diag (s : State) : (abandon s).diag = s.diag := rfl

/-! ### report -/

@[simp] theorem report_x (e : Condition) (s : State) : (report e s).x = s.x := rfl
@[simp] theorem report_c (e : Condition) (s : State) : (report e s).c = s.c := rfl
@[simp] theorem report_pc (e : Condition) (s : State) : (report e s).pc = s.pc := rfl
@[simp] theorem report_prevValid (e : Condition) (s : State) : (report e s).prevValid = s.prevValid := rfl
@[simp] theorem report_prevClock (e : Condition) (s : State) : (report e s).prevClock = s.prevClock := rfl
@[simp] theorem report_anchor (e : Condition) (s : State) : (report e s).anchor = s.anchor := rfl
@[simp] theorem report_teardownDone (e : Condition) (s : State) : (report e s).teardownDone = s.teardownDone := rfl
@[simp] theorem report_sinkOpen (e : Condition) (s : State) : (report e s).sinkOpen = s.sinkOpen := rfl
@[simp] theorem report_irqPending (e : Condition) (s : State) : (report e s).irqPending = s.irqPending := rfl
@[simp] theorem report_warnCount (e : Condition) (s : State) : (report e s).warnCount = s.warnCount := rfl
@[simp] theorem report_truncated (e : Condition) (s : State) : (report e s).truncated = s.truncated := rfl
@[simp] theorem report_exitCause (e : Condition) (s : State) : (report e s).exitCause = s.exitCause := rfl
@[simp] theorem report_phase (e : Condition) (s : State) : (report e s).phase = s.phase := rfl
@[simp] theorem report_stage (e : Condition) (s : State) : (report e s).stage = s.stage := rfl
@[simp] theorem report_outbox (e : Condition) (s : State) : (report e s).outbox = s.outbox := rfl
@[simp] theorem report_config (e : Condition) (s : State) : (report e s).config = s.config := rfl
@[simp] theorem report_trace (e : Condition) (s : State) : (report e s).trace = s.trace := rfl
@[simp] theorem report_now (e : Condition) (s : State) : (report e s).now = s.now := rfl
@[simp] theorem report_arrivals (e : Condition) (s : State) : (report e s).arrivals = s.arrivals := rfl
@[simp] theorem report_answers (e : Condition) (s : State) : (report e s).answers = s.answers := rfl
@[simp] theorem report_out (e : Condition) (s : State) : (report e s).out = s.out := rfl
@[simp] theorem report_diag (e : Condition) (s : State) : (report e s).diag = s.diag ++ [e] := rfl

/-! ### accept -/

@[simp] theorem accept_x (m : Message) (s : State) : (accept m s).x = s.x := rfl
@[simp] theorem accept_c (m : Message) (s : State) : (accept m s).c = s.c := rfl
@[simp] theorem accept_pc (m : Message) (s : State) : (accept m s).pc = s.pc := rfl
@[simp] theorem accept_prevValid (m : Message) (s : State) : (accept m s).prevValid = s.prevValid := rfl
@[simp] theorem accept_prevClock (m : Message) (s : State) : (accept m s).prevClock = s.prevClock := rfl
@[simp] theorem accept_anchor (m : Message) (s : State) : (accept m s).anchor = s.anchor := rfl
@[simp] theorem accept_teardownDone (m : Message) (s : State) : (accept m s).teardownDone = s.teardownDone := rfl
@[simp] theorem accept_sinkOpen (m : Message) (s : State) : (accept m s).sinkOpen = s.sinkOpen := rfl
@[simp] theorem accept_irqPending (m : Message) (s : State) : (accept m s).irqPending = s.irqPending := rfl
@[simp] theorem accept_warnCount (m : Message) (s : State) : (accept m s).warnCount = s.warnCount := rfl
@[simp] theorem accept_truncated (m : Message) (s : State) : (accept m s).truncated = s.truncated := rfl
@[simp] theorem accept_exitCause (m : Message) (s : State) : (accept m s).exitCause = s.exitCause := rfl
@[simp] theorem accept_phase (m : Message) (s : State) : (accept m s).phase = s.phase := rfl
@[simp] theorem accept_stage (m : Message) (s : State) : (accept m s).stage = s.stage := rfl
@[simp] theorem accept_outbox (m : Message) (s : State) : (accept m s).outbox = s.outbox := rfl
@[simp] theorem accept_config (m : Message) (s : State) : (accept m s).config = s.config := rfl
@[simp] theorem accept_trace (m : Message) (s : State) : (accept m s).trace = s.trace := rfl
@[simp] theorem accept_now (m : Message) (s : State) : (accept m s).now = s.now := rfl
@[simp] theorem accept_arrivals (m : Message) (s : State) : (accept m s).arrivals = s.arrivals := rfl
@[simp] theorem accept_answers (m : Message) (s : State) : (accept m s).answers = s.answers.tail := rfl
@[simp] theorem accept_out (m : Message) (s : State) : (accept m s).out = s.out ++ [m] := rfl
@[simp] theorem accept_diag (m : Message) (s : State) : (accept m s).diag = s.diag := rfl

/-! ### turnAway -/

@[simp] theorem turnAway_x (s : State) : (turnAway s).x = s.x := rfl
@[simp] theorem turnAway_c (s : State) : (turnAway s).c = s.c := rfl
@[simp] theorem turnAway_pc (s : State) : (turnAway s).pc = s.pc := rfl
@[simp] theorem turnAway_prevValid (s : State) : (turnAway s).prevValid = s.prevValid := rfl
@[simp] theorem turnAway_prevClock (s : State) : (turnAway s).prevClock = s.prevClock := rfl
@[simp] theorem turnAway_anchor (s : State) : (turnAway s).anchor = s.anchor := rfl
@[simp] theorem turnAway_teardownDone (s : State) : (turnAway s).teardownDone = s.teardownDone := rfl
@[simp] theorem turnAway_sinkOpen (s : State) : (turnAway s).sinkOpen = s.sinkOpen := rfl
@[simp] theorem turnAway_irqPending (s : State) : (turnAway s).irqPending = s.irqPending := rfl
@[simp] theorem turnAway_warnCount (s : State) : (turnAway s).warnCount = s.warnCount := rfl
@[simp] theorem turnAway_truncated (s : State) : (turnAway s).truncated = s.truncated := rfl
@[simp] theorem turnAway_exitCause (s : State) : (turnAway s).exitCause = s.exitCause := rfl
@[simp] theorem turnAway_phase (s : State) : (turnAway s).phase = s.phase := rfl
@[simp] theorem turnAway_stage (s : State) : (turnAway s).stage = s.stage := rfl
@[simp] theorem turnAway_outbox (s : State) : (turnAway s).outbox = s.outbox := rfl
@[simp] theorem turnAway_config (s : State) : (turnAway s).config = s.config := rfl
@[simp] theorem turnAway_trace (s : State) : (turnAway s).trace = s.trace := rfl
@[simp] theorem turnAway_now (s : State) : (turnAway s).now = s.now := rfl
@[simp] theorem turnAway_arrivals (s : State) : (turnAway s).arrivals = s.arrivals := rfl
@[simp] theorem turnAway_answers (s : State) : (turnAway s).answers = s.answers.tail := rfl
@[simp] theorem turnAway_out (s : State) : (turnAway s).out = s.out := rfl
@[simp] theorem turnAway_diag (s : State) : (turnAway s).diag = s.diag := rfl

/-! ### applyWrite -/

@[simp] theorem applyWrite_x (slot : Fin 16) (k : Tick) (v : Byte) (s : State) : (applyWrite slot k v s).x = s.x.set slot v := rfl
@[simp] theorem applyWrite_c (slot : Fin 16) (k : Tick) (v : Byte) (s : State) : (applyWrite slot k v s).c = s.c := rfl
@[simp] theorem applyWrite_pc (slot : Fin 16) (k : Tick) (v : Byte) (s : State) : (applyWrite slot k v s).pc = s.pc := rfl
@[simp] theorem applyWrite_prevValid (slot : Fin 16) (k : Tick) (v : Byte) (s : State) : (applyWrite slot k v s).prevValid = true := rfl
@[simp] theorem applyWrite_prevClock (slot : Fin 16) (k : Tick) (v : Byte) (s : State) : (applyWrite slot k v s).prevClock = k := rfl
@[simp] theorem applyWrite_anchor (slot : Fin 16) (k : Tick) (v : Byte) (s : State) : (applyWrite slot k v s).anchor = s.anchor := rfl
@[simp] theorem applyWrite_teardownDone (slot : Fin 16) (k : Tick) (v : Byte) (s : State) : (applyWrite slot k v s).teardownDone = s.teardownDone := rfl
@[simp] theorem applyWrite_sinkOpen (slot : Fin 16) (k : Tick) (v : Byte) (s : State) : (applyWrite slot k v s).sinkOpen = s.sinkOpen := rfl
@[simp] theorem applyWrite_irqPending (slot : Fin 16) (k : Tick) (v : Byte) (s : State) : (applyWrite slot k v s).irqPending = s.irqPending := rfl
@[simp] theorem applyWrite_warnCount (slot : Fin 16) (k : Tick) (v : Byte) (s : State) : (applyWrite slot k v s).warnCount = s.warnCount := rfl
@[simp] theorem applyWrite_truncated (slot : Fin 16) (k : Tick) (v : Byte) (s : State) : (applyWrite slot k v s).truncated = s.truncated := rfl
@[simp] theorem applyWrite_exitCause (slot : Fin 16) (k : Tick) (v : Byte) (s : State) : (applyWrite slot k v s).exitCause = s.exitCause := rfl
@[simp] theorem applyWrite_phase (slot : Fin 16) (k : Tick) (v : Byte) (s : State) : (applyWrite slot k v s).phase = s.phase := rfl
@[simp] theorem applyWrite_stage (slot : Fin 16) (k : Tick) (v : Byte) (s : State) : (applyWrite slot k v s).stage = .fetch := rfl
@[simp] theorem applyWrite_outbox (slot : Fin 16) (k : Tick) (v : Byte) (s : State) : (applyWrite slot k v s).outbox = s.outbox := rfl
@[simp] theorem applyWrite_config (slot : Fin 16) (k : Tick) (v : Byte) (s : State) : (applyWrite slot k v s).config = s.config := rfl
@[simp] theorem applyWrite_trace (slot : Fin 16) (k : Tick) (v : Byte) (s : State) : (applyWrite slot k v s).trace = s.trace := rfl
@[simp] theorem applyWrite_now (slot : Fin 16) (k : Tick) (v : Byte) (s : State) : (applyWrite slot k v s).now = s.now := rfl
@[simp] theorem applyWrite_arrivals (slot : Fin 16) (k : Tick) (v : Byte) (s : State) : (applyWrite slot k v s).arrivals = s.arrivals := rfl
@[simp] theorem applyWrite_answers (slot : Fin 16) (k : Tick) (v : Byte) (s : State) : (applyWrite slot k v s).answers = s.answers := rfl
@[simp] theorem applyWrite_out (slot : Fin 16) (k : Tick) (v : Byte) (s : State) : (applyWrite slot k v s).out = s.out := rfl
@[simp] theorem applyWrite_diag (slot : Fin 16) (k : Tick) (v : Byte) (s : State) : (applyWrite slot k v s).diag = s.diag := rfl

/-! ### startEventFlush -/

@[simp] theorem startEventFlush_x (i : Instr) (s : State) : (startEventFlush i s).x = s.x := rfl
@[simp] theorem startEventFlush_c (i : Instr) (s : State) : (startEventFlush i s).c = s.c := rfl
@[simp] theorem startEventFlush_pc (i : Instr) (s : State) : (startEventFlush i s).pc = s.pc := rfl
@[simp] theorem startEventFlush_prevValid (i : Instr) (s : State) : (startEventFlush i s).prevValid = s.prevValid := rfl
@[simp] theorem startEventFlush_prevClock (i : Instr) (s : State) : (startEventFlush i s).prevClock = s.prevClock := rfl
@[simp] theorem startEventFlush_anchor (i : Instr) (s : State) : (startEventFlush i s).anchor = s.anchor := rfl
@[simp] theorem startEventFlush_teardownDone (i : Instr) (s : State) : (startEventFlush i s).teardownDone = s.teardownDone := rfl
@[simp] theorem startEventFlush_sinkOpen (i : Instr) (s : State) : (startEventFlush i s).sinkOpen = s.sinkOpen := rfl
@[simp] theorem startEventFlush_irqPending (i : Instr) (s : State) : (startEventFlush i s).irqPending = s.irqPending := rfl
@[simp] theorem startEventFlush_warnCount (i : Instr) (s : State) : (startEventFlush i s).warnCount = s.warnCount := rfl
@[simp] theorem startEventFlush_truncated (i : Instr) (s : State) : (startEventFlush i s).truncated = s.truncated := rfl
@[simp] theorem startEventFlush_exitCause (i : Instr) (s : State) : (startEventFlush i s).exitCause = s.exitCause := rfl
@[simp] theorem startEventFlush_phase (i : Instr) (s : State) : (startEventFlush i s).phase = s.phase := rfl
@[simp] theorem startEventFlush_stage (i : Instr) (s : State) : (startEventFlush i s).stage = .flush i := rfl
@[simp] theorem startEventFlush_outbox (i : Instr) (s : State) : (startEventFlush i s).outbox = flushMessages s.config s.x s.c := rfl
@[simp] theorem startEventFlush_config (i : Instr) (s : State) : (startEventFlush i s).config = s.config := rfl
@[simp] theorem startEventFlush_trace (i : Instr) (s : State) : (startEventFlush i s).trace = s.trace := rfl
@[simp] theorem startEventFlush_now (i : Instr) (s : State) : (startEventFlush i s).now = s.now := rfl
@[simp] theorem startEventFlush_arrivals (i : Instr) (s : State) : (startEventFlush i s).arrivals = s.arrivals := rfl
@[simp] theorem startEventFlush_answers (i : Instr) (s : State) : (startEventFlush i s).answers = s.answers := rfl
@[simp] theorem startEventFlush_out (i : Instr) (s : State) : (startEventFlush i s).out = s.out := rfl
@[simp] theorem startEventFlush_diag (i : Instr) (s : State) : (startEventFlush i s).diag = s.diag := rfl

/-! ### beginRun -/

@[simp] theorem beginRun_x (s : State) : (beginRun s).x = s.x := rfl
@[simp] theorem beginRun_c (s : State) : (beginRun s).c = s.c := rfl
@[simp] theorem beginRun_pc (s : State) : (beginRun s).pc = s.pc := rfl
@[simp] theorem beginRun_prevValid (s : State) : (beginRun s).prevValid = s.prevValid := rfl
@[simp] theorem beginRun_prevClock (s : State) : (beginRun s).prevClock = s.prevClock := rfl
@[simp] theorem beginRun_anchor (s : State) : (beginRun s).anchor = s.now := rfl
@[simp] theorem beginRun_teardownDone (s : State) : (beginRun s).teardownDone = s.teardownDone := rfl
@[simp] theorem beginRun_sinkOpen (s : State) : (beginRun s).sinkOpen = s.sinkOpen := rfl
@[simp] theorem beginRun_irqPending (s : State) : (beginRun s).irqPending = s.irqPending := rfl
@[simp] theorem beginRun_warnCount (s : State) : (beginRun s).warnCount = s.warnCount := rfl
@[simp] theorem beginRun_truncated (s : State) : (beginRun s).truncated = s.truncated := rfl
@[simp] theorem beginRun_exitCause (s : State) : (beginRun s).exitCause = s.exitCause := rfl
@[simp] theorem beginRun_phase (s : State) : (beginRun s).phase = .run := rfl
@[simp] theorem beginRun_stage (s : State) : (beginRun s).stage = s.stage := rfl
@[simp] theorem beginRun_outbox (s : State) : (beginRun s).outbox = s.outbox := rfl
@[simp] theorem beginRun_config (s : State) : (beginRun s).config = s.config := rfl
@[simp] theorem beginRun_trace (s : State) : (beginRun s).trace = s.trace := rfl
@[simp] theorem beginRun_now (s : State) : (beginRun s).now = s.now := rfl
@[simp] theorem beginRun_arrivals (s : State) : (beginRun s).arrivals = s.arrivals := rfl
@[simp] theorem beginRun_answers (s : State) : (beginRun s).answers = s.answers := rfl
@[simp] theorem beginRun_out (s : State) : (beginRun s).out = s.out := rfl
@[simp] theorem beginRun_diag (s : State) : (beginRun s).diag = s.diag := rfl

/-! ### sampleInputs -/

@[simp] theorem sampleInputs_x (s : State) : (sampleInputs s).x = s.x := rfl
@[simp] theorem sampleInputs_c (s : State) : (sampleInputs s).c = s.c := rfl
@[simp] theorem sampleInputs_pc (s : State) : (sampleInputs s).pc = s.pc := rfl
@[simp] theorem sampleInputs_prevValid (s : State) : (sampleInputs s).prevValid = s.prevValid := rfl
@[simp] theorem sampleInputs_prevClock (s : State) : (sampleInputs s).prevClock = s.prevClock := rfl
@[simp] theorem sampleInputs_anchor (s : State) : (sampleInputs s).anchor = s.anchor := rfl
@[simp] theorem sampleInputs_teardownDone (s : State) : (sampleInputs s).teardownDone = s.teardownDone := rfl
@[simp] theorem sampleInputs_sinkOpen (s : State) : (sampleInputs s).sinkOpen = s.sinkOpen := rfl
@[simp] theorem sampleInputs_irqPending (s : State) : (sampleInputs s).irqPending = (s.irqPending || (s.arrivals.headD quietArrival).irq) := rfl
@[simp] theorem sampleInputs_warnCount (s : State) : (sampleInputs s).warnCount = s.warnCount := rfl
@[simp] theorem sampleInputs_truncated (s : State) : (sampleInputs s).truncated = s.truncated := rfl
@[simp] theorem sampleInputs_exitCause (s : State) : (sampleInputs s).exitCause = s.exitCause := rfl
@[simp] theorem sampleInputs_phase (s : State) : (sampleInputs s).phase = s.phase := rfl
@[simp] theorem sampleInputs_stage (s : State) : (sampleInputs s).stage = s.stage := rfl
@[simp] theorem sampleInputs_outbox (s : State) : (sampleInputs s).outbox = s.outbox := rfl
@[simp] theorem sampleInputs_config (s : State) : (sampleInputs s).config = s.config := rfl
@[simp] theorem sampleInputs_trace (s : State) : (sampleInputs s).trace = s.trace := rfl
@[simp] theorem sampleInputs_now (s : State) : (sampleInputs s).now = s.now + (s.arrivals.headD quietArrival).elapsed := rfl
@[simp] theorem sampleInputs_arrivals (s : State) : (sampleInputs s).arrivals = s.arrivals.tail := rfl
@[simp] theorem sampleInputs_answers (s : State) : (sampleInputs s).answers = s.answers := rfl
@[simp] theorem sampleInputs_out (s : State) : (sampleInputs s).out = s.out := rfl
@[simp] theorem sampleInputs_diag (s : State) : (sampleInputs s).diag = s.diag := rfl

/-! ### placeMessage -/

@[simp] theorem placeMessage_x (i : Instr) (s : State) : (placeMessage i s).x = s.x := rfl
@[simp] theorem placeMessage_c (i : Instr) (s : State) : (placeMessage i s).c = s.c := rfl
@[simp] theorem placeMessage_pc (i : Instr) (s : State) : (placeMessage i s).pc = s.pc := rfl
@[simp] theorem placeMessage_prevValid (i : Instr) (s : State) : (placeMessage i s).prevValid = s.prevValid := rfl
@[simp] theorem placeMessage_prevClock (i : Instr) (s : State) : (placeMessage i s).prevClock = s.prevClock := rfl
@[simp] theorem placeMessage_anchor (i : Instr) (s : State) : (placeMessage i s).anchor = s.anchor := rfl
@[simp] theorem placeMessage_teardownDone (i : Instr) (s : State) : (placeMessage i s).teardownDone = s.teardownDone := rfl
@[simp] theorem placeMessage_sinkOpen (i : Instr) (s : State) : (placeMessage i s).sinkOpen = true := rfl
@[simp] theorem placeMessage_irqPending (i : Instr) (s : State) : (placeMessage i s).irqPending = s.irqPending := rfl
@[simp] theorem placeMessage_warnCount (i : Instr) (s : State) : (placeMessage i s).warnCount = s.warnCount := rfl
@[simp] theorem placeMessage_truncated (i : Instr) (s : State) : (placeMessage i s).truncated = s.truncated := rfl
@[simp] theorem placeMessage_exitCause (i : Instr) (s : State) : (placeMessage i s).exitCause = s.exitCause := rfl
@[simp] theorem placeMessage_phase (i : Instr) (s : State) : (placeMessage i s).phase = sendingPhase s.phase := rfl
@[simp] theorem placeMessage_stage (i : Instr) (s : State) : (placeMessage i s).stage = s.stage := rfl
@[simp] theorem placeMessage_outbox (i : Instr) (s : State) : (placeMessage i s).outbox = i :: s.outbox := rfl
@[simp] theorem placeMessage_config (i : Instr) (s : State) : (placeMessage i s).config = s.config := rfl
@[simp] theorem placeMessage_trace (i : Instr) (s : State) : (placeMessage i s).trace = s.trace := rfl
@[simp] theorem placeMessage_now (i : Instr) (s : State) : (placeMessage i s).now = s.now := rfl
@[simp] theorem placeMessage_arrivals (i : Instr) (s : State) : (placeMessage i s).arrivals = s.arrivals := rfl
@[simp] theorem placeMessage_answers (i : Instr) (s : State) : (placeMessage i s).answers = s.answers := rfl
@[simp] theorem placeMessage_out (i : Instr) (s : State) : (placeMessage i s).out = s.out := rfl
@[simp] theorem placeMessage_diag (i : Instr) (s : State) : (placeMessage i s).diag = s.diag := rfl

/-! ### placeRecord -/

@[simp] theorem placeRecord_x (bs : List Byte) (s : State) : (placeRecord bs s).x = s.x := rfl
@[simp] theorem placeRecord_c (bs : List Byte) (s : State) : (placeRecord bs s).c = s.c := rfl
@[simp] theorem placeRecord_pc (bs : List Byte) (s : State) : (placeRecord bs s).pc = s.pc := rfl
@[simp] theorem placeRecord_prevValid (bs : List Byte) (s : State) : (placeRecord bs s).prevValid = s.prevValid := rfl
@[simp] theorem placeRecord_prevClock (bs : List Byte) (s : State) : (placeRecord bs s).prevClock = s.prevClock := rfl
@[simp] theorem placeRecord_anchor (bs : List Byte) (s : State) : (placeRecord bs s).anchor = s.anchor := rfl
@[simp] theorem placeRecord_teardownDone (bs : List Byte) (s : State) : (placeRecord bs s).teardownDone = s.teardownDone := rfl
@[simp] theorem placeRecord_sinkOpen (bs : List Byte) (s : State) : (placeRecord bs s).sinkOpen = true := rfl
@[simp] theorem placeRecord_irqPending (bs : List Byte) (s : State) : (placeRecord bs s).irqPending = false := rfl
@[simp] theorem placeRecord_warnCount (bs : List Byte) (s : State) : (placeRecord bs s).warnCount = s.warnCount := rfl
@[simp] theorem placeRecord_truncated (bs : List Byte) (s : State) : (placeRecord bs s).truncated = s.truncated := rfl
@[simp] theorem placeRecord_exitCause (bs : List Byte) (s : State) : (placeRecord bs s).exitCause = s.exitCause := rfl
@[simp] theorem placeRecord_phase (bs : List Byte) (s : State) : (placeRecord bs s).phase = .run := rfl
@[simp] theorem placeRecord_stage (bs : List Byte) (s : State) : (placeRecord bs s).stage = .fetch := rfl
@[simp] theorem placeRecord_outbox (bs : List Byte) (s : State) : (placeRecord bs s).outbox = [] := rfl
@[simp] theorem placeRecord_config (bs : List Byte) (s : State) : (placeRecord bs s).config = s.config := rfl
@[simp] theorem placeRecord_trace (bs : List Byte) (s : State) : (placeRecord bs s).trace = s.trace.writeBytes (10 * s.pc) bs := rfl
@[simp] theorem placeRecord_now (bs : List Byte) (s : State) : (placeRecord bs s).now = max s.now (deadline (recordClock (recordOfBytes bs)) s) := rfl
@[simp] theorem placeRecord_arrivals (bs : List Byte) (s : State) : (placeRecord bs s).arrivals = [] := rfl
@[simp] theorem placeRecord_answers (bs : List Byte) (s : State) : (placeRecord bs s).answers = s.answers := rfl
@[simp] theorem placeRecord_out (bs : List Byte) (s : State) : (placeRecord bs s).out = s.out := rfl
@[simp] theorem placeRecord_diag (bs : List Byte) (s : State) : (placeRecord bs s).diag = s.diag := rfl

/-! ### pastRecord, withOutbox -/

@[simp] theorem pastRecord_x (s : State) : (pastRecord s).x = s.x := rfl
@[simp] theorem pastRecord_c (s : State) : (pastRecord s).c = s.c := rfl
@[simp] theorem pastRecord_pc (s : State) : (pastRecord s).pc = s.pc + 1 := rfl
@[simp] theorem pastRecord_prevValid (s : State) : (pastRecord s).prevValid = s.prevValid := rfl
@[simp] theorem pastRecord_prevClock (s : State) : (pastRecord s).prevClock = s.prevClock := rfl
@[simp] theorem pastRecord_anchor (s : State) : (pastRecord s).anchor = s.anchor := rfl
@[simp] theorem pastRecord_teardownDone (s : State) : (pastRecord s).teardownDone = s.teardownDone := rfl
@[simp] theorem pastRecord_sinkOpen (s : State) : (pastRecord s).sinkOpen = s.sinkOpen := rfl
@[simp] theorem pastRecord_irqPending (s : State) : (pastRecord s).irqPending = s.irqPending := rfl
@[simp] theorem pastRecord_warnCount (s : State) : (pastRecord s).warnCount = s.warnCount := rfl
@[simp] theorem pastRecord_truncated (s : State) : (pastRecord s).truncated = s.truncated := rfl
@[simp] theorem pastRecord_exitCause (s : State) : (pastRecord s).exitCause = s.exitCause := rfl
@[simp] theorem pastRecord_phase (s : State) : (pastRecord s).phase = s.phase := rfl
@[simp] theorem pastRecord_stage (s : State) : (pastRecord s).stage = s.stage := rfl
@[simp] theorem pastRecord_outbox (s : State) : (pastRecord s).outbox = s.outbox := rfl
@[simp] theorem pastRecord_config (s : State) : (pastRecord s).config = s.config := rfl
@[simp] theorem pastRecord_trace (s : State) : (pastRecord s).trace = s.trace := rfl
@[simp] theorem pastRecord_now (s : State) : (pastRecord s).now = s.now := rfl
@[simp] theorem pastRecord_arrivals (s : State) : (pastRecord s).arrivals = s.arrivals := rfl
@[simp] theorem pastRecord_answers (s : State) : (pastRecord s).answers = s.answers := rfl
@[simp] theorem pastRecord_out (s : State) : (pastRecord s).out = s.out := rfl
@[simp] theorem pastRecord_diag (s : State) : (pastRecord s).diag = s.diag := rfl
@[simp] theorem withOutbox_x (rest : List Instr) (s : State) : (withOutbox rest s).x = s.x := rfl
@[simp] theorem withOutbox_c (rest : List Instr) (s : State) : (withOutbox rest s).c = s.c := rfl
@[simp] theorem withOutbox_pc (rest : List Instr) (s : State) : (withOutbox rest s).pc = s.pc := rfl
@[simp] theorem withOutbox_prevValid (rest : List Instr) (s : State) : (withOutbox rest s).prevValid = s.prevValid := rfl
@[simp] theorem withOutbox_prevClock (rest : List Instr) (s : State) : (withOutbox rest s).prevClock = s.prevClock := rfl
@[simp] theorem withOutbox_anchor (rest : List Instr) (s : State) : (withOutbox rest s).anchor = s.anchor := rfl
@[simp] theorem withOutbox_teardownDone (rest : List Instr) (s : State) : (withOutbox rest s).teardownDone = s.teardownDone := rfl
@[simp] theorem withOutbox_sinkOpen (rest : List Instr) (s : State) : (withOutbox rest s).sinkOpen = s.sinkOpen := rfl
@[simp] theorem withOutbox_irqPending (rest : List Instr) (s : State) : (withOutbox rest s).irqPending = s.irqPending := rfl
@[simp] theorem withOutbox_warnCount (rest : List Instr) (s : State) : (withOutbox rest s).warnCount = s.warnCount := rfl
@[simp] theorem withOutbox_truncated (rest : List Instr) (s : State) : (withOutbox rest s).truncated = s.truncated := rfl
@[simp] theorem withOutbox_exitCause (rest : List Instr) (s : State) : (withOutbox rest s).exitCause = s.exitCause := rfl
@[simp] theorem withOutbox_phase (rest : List Instr) (s : State) : (withOutbox rest s).phase = s.phase := rfl
@[simp] theorem withOutbox_stage (rest : List Instr) (s : State) : (withOutbox rest s).stage = s.stage := rfl
@[simp] theorem withOutbox_outbox (rest : List Instr) (s : State) : (withOutbox rest s).outbox = rest := rfl
@[simp] theorem withOutbox_config (rest : List Instr) (s : State) : (withOutbox rest s).config = s.config := rfl
@[simp] theorem withOutbox_trace (rest : List Instr) (s : State) : (withOutbox rest s).trace = s.trace := rfl
@[simp] theorem withOutbox_now (rest : List Instr) (s : State) : (withOutbox rest s).now = s.now := rfl
@[simp] theorem withOutbox_arrivals (rest : List Instr) (s : State) : (withOutbox rest s).arrivals = s.arrivals := rfl
@[simp] theorem withOutbox_answers (rest : List Instr) (s : State) : (withOutbox rest s).answers = s.answers := rfl
@[simp] theorem withOutbox_out (rest : List Instr) (s : State) : (withOutbox rest s).out = s.out := rfl
@[simp] theorem withOutbox_diag (rest : List Instr) (s : State) : (withOutbox rest s).diag = s.diag := rfl

/-! ### startSession -/

@[simp] theorem startSession_x (s : State) : (startSession s).x = Bank.zero := rfl
@[simp] theorem startSession_c (s : State) : (startSession s).c = Bank.zero := rfl
@[simp] theorem startSession_pc (s : State) : (startSession s).pc = 0 := rfl
@[simp] theorem startSession_prevValid (s : State) : (startSession s).prevValid = decide (s.config.prevClockInit = .zero) := rfl
@[simp] theorem startSession_prevClock (s : State) : (startSession s).prevClock = 0 := rfl
@[simp] theorem startSession_anchor (s : State) : (startSession s).anchor = 0 := rfl
@[simp] theorem startSession_teardownDone (s : State) : (startSession s).teardownDone = false := rfl
@[simp] theorem startSession_sinkOpen (s : State) : (startSession s).sinkOpen = true := rfl
@[simp] theorem startSession_irqPending (s : State) : (startSession s).irqPending = false := rfl
@[simp] theorem startSession_warnCount (s : State) : (startSession s).warnCount = 0 := rfl
@[simp] theorem startSession_truncated (s : State) : (startSession s).truncated = false := rfl
@[simp] theorem startSession_exitCause (s : State) : (startSession s).exitCause = .normal := rfl
@[simp] theorem startSession_phase (s : State) : (startSession s).phase = .startReset := rfl
@[simp] theorem startSession_stage (s : State) : (startSession s).stage = .fetch := rfl
@[simp] theorem startSession_outbox (s : State) : (startSession s).outbox = resetMessages := rfl
@[simp] theorem startSession_config (s : State) : (startSession s).config = s.config := rfl
@[simp] theorem startSession_trace (s : State) : (startSession s).trace = s.trace := rfl
@[simp] theorem startSession_now (s : State) : (startSession s).now = s.now := rfl
@[simp] theorem startSession_arrivals (s : State) : (startSession s).arrivals = s.arrivals := rfl
@[simp] theorem startSession_answers (s : State) : (startSession s).answers = s.answers := rfl
@[simp] theorem startSession_out (s : State) : (startSession s).out = [] := rfl
@[simp] theorem startSession_diag (s : State) : (startSession s).diag = [] := rfl

/-! ### commitFlush -/

@[simp] theorem commitFlush_x (s : State) : (commitFlush s).x = s.x := by unfold commitFlush; split <;> rfl
@[simp] theorem commitFlush_c (s : State) : (commitFlush s).c = if flushing s then s.x else s.c := by
  unfold commitFlush; split <;> rfl
@[simp] theorem commitFlush_pc (s : State) : (commitFlush s).pc = s.pc := by unfold commitFlush; split <;> rfl
@[simp] theorem commitFlush_prevValid (s : State) : (commitFlush s).prevValid = s.prevValid := by unfold commitFlush; split <;> rfl
@[simp] theorem commitFlush_prevClock (s : State) : (commitFlush s).prevClock = s.prevClock := by unfold commitFlush; split <;> rfl
@[simp] theorem commitFlush_anchor (s : State) : (commitFlush s).anchor = s.anchor := by unfold commitFlush; split <;> rfl
@[simp] theorem commitFlush_teardownDone (s : State) : (commitFlush s).teardownDone = s.teardownDone := by unfold commitFlush; split <;> rfl
@[simp] theorem commitFlush_sinkOpen (s : State) : (commitFlush s).sinkOpen = s.sinkOpen := by unfold commitFlush; split <;> rfl
@[simp] theorem commitFlush_irqPending (s : State) : (commitFlush s).irqPending = s.irqPending := by unfold commitFlush; split <;> rfl
@[simp] theorem commitFlush_warnCount (s : State) : (commitFlush s).warnCount = s.warnCount := by unfold commitFlush; split <;> rfl
@[simp] theorem commitFlush_truncated (s : State) : (commitFlush s).truncated = s.truncated := by unfold commitFlush; split <;> rfl
@[simp] theorem commitFlush_exitCause (s : State) : (commitFlush s).exitCause = s.exitCause := by unfold commitFlush; split <;> rfl
@[simp] theorem commitFlush_phase (s : State) : (commitFlush s).phase = s.phase := by unfold commitFlush; split <;> rfl
@[simp] theorem commitFlush_stage (s : State) : (commitFlush s).stage = s.stage := by unfold commitFlush; split <;> rfl
@[simp] theorem commitFlush_outbox (s : State) : (commitFlush s).outbox = s.outbox := by unfold commitFlush; split <;> rfl
@[simp] theorem commitFlush_config (s : State) : (commitFlush s).config = s.config := by unfold commitFlush; split <;> rfl
@[simp] theorem commitFlush_trace (s : State) : (commitFlush s).trace = s.trace := by unfold commitFlush; split <;> rfl
@[simp] theorem commitFlush_now (s : State) : (commitFlush s).now = s.now := by unfold commitFlush; split <;> rfl
@[simp] theorem commitFlush_arrivals (s : State) : (commitFlush s).arrivals = s.arrivals := by unfold commitFlush; split <;> rfl
@[simp] theorem commitFlush_answers (s : State) : (commitFlush s).answers = s.answers := by unfold commitFlush; split <;> rfl
@[simp] theorem commitFlush_out (s : State) : (commitFlush s).out = s.out := by unfold commitFlush; split <;> rfl
@[simp] theorem commitFlush_diag (s : State) : (commitFlush s).diag = s.diag := by unfold commitFlush; split <;> rfl

/-! ### teardown: what its guard (R189) decides, and what it never touches -/

@[simp] theorem teardown_x (s : State) : (teardown s).x = if s.teardownDone then s.x else Bank.zero := by
  unfold teardown; split <;> rfl
@[simp] theorem teardown_c (s : State) : (teardown s).c = if s.teardownDone then s.c else Bank.zero := by
  unfold teardown; split <;> rfl
@[simp] theorem teardown_pc (s : State) : (teardown s).pc = s.pc := by unfold teardown; split <;> rfl
@[simp] theorem teardown_prevValid (s : State) : (teardown s).prevValid = s.prevValid := by unfold teardown; split <;> rfl
@[simp] theorem teardown_prevClock (s : State) : (teardown s).prevClock = s.prevClock := by unfold teardown; split <;> rfl
@[simp] theorem teardown_anchor (s : State) : (teardown s).anchor = s.anchor := by unfold teardown; split <;> rfl
@[simp] theorem teardown_teardownDone (s : State) : (teardown s).teardownDone = true := by
  unfold teardown; split
  · assumption
  · rfl
@[simp] theorem teardown_sinkOpen (s : State) : (teardown s).sinkOpen = s.sinkOpen := by unfold teardown; split <;> rfl
@[simp] theorem teardown_irqPending (s : State) : (teardown s).irqPending = s.irqPending := by unfold teardown; split <;> rfl
@[simp] theorem teardown_warnCount (s : State) : (teardown s).warnCount = s.warnCount := by unfold teardown; split <;> rfl
@[simp] theorem teardown_truncated (s : State) : (teardown s).truncated = s.truncated := by unfold teardown; split <;> rfl
@[simp] theorem teardown_exitCause (s : State) : (teardown s).exitCause = s.exitCause := by unfold teardown; split <;> rfl
@[simp] theorem teardown_phase (s : State) : (teardown s).phase = if s.teardownDone then s.phase else .endReset := by
  unfold teardown; split <;> rfl
@[simp] theorem teardown_stage (s : State) : (teardown s).stage = s.stage := by unfold teardown; split <;> rfl
@[simp] theorem teardown_outbox (s : State) : (teardown s).outbox = if s.teardownDone then s.outbox else resetMessages := by
  unfold teardown; split <;> rfl
@[simp] theorem teardown_config (s : State) : (teardown s).config = s.config := by unfold teardown; split <;> rfl
@[simp] theorem teardown_trace (s : State) : (teardown s).trace = s.trace := by unfold teardown; split <;> rfl
@[simp] theorem teardown_now (s : State) : (teardown s).now = s.now := by unfold teardown; split <;> rfl
@[simp] theorem teardown_arrivals (s : State) : (teardown s).arrivals = s.arrivals := by unfold teardown; split <;> rfl
@[simp] theorem teardown_answers (s : State) : (teardown s).answers = s.answers := by unfold teardown; split <;> rfl
@[simp] theorem teardown_out (s : State) : (teardown s).out = s.out := by unfold teardown; split <;> rfl
@[simp] theorem teardown_diag (s : State) : (teardown s).diag = s.diag := by unfold teardown; split <;> rfl

end Sys2Proof.Machine
end

