-- ==== Sys2Proof/Laws/Ops.lean ====
section
/-! SUPPORT. One lemma per shared operation that says what it can do; later proofs cite these and do not unfold. -/

namespace Sys2Proof.Machine

open Sys2Proof

/-! ### The trace -/

theorem memRead_whole (m : Memory) (addr n : Nat) (h : addr + n ≤ m.len) :
    memRead m addr n = .bytes ((List.range n).map fun k => cellAt m.cells (addr + k)) := if_pos h

theorem memRead_short (m : Memory) (addr n : Nat) (h : m.len < addr + n) :
    memRead m addr n = .short (m.len - addr) := if_neg (by omega)

/-- A byte written is the byte read. -/
theorem cellAt_insertCell_self (a : Nat) (v : Byte) (len lo : Nat) (cells : List Host.Cell)
    (h : cellsCanonical len lo cells = true) : cellAt (insertCell a v cells) a = v := by
  have fresh : ∀ (cells : List Host.Cell) (lo : Nat), a < lo → cellsCanonical len lo cells = true → cellAt cells a = 0 := by
    intro cells
    induction cells with
    | nil => intros; rfl
    | cons e rest ih =>
      obtain ⟨b, w⟩ := e
      intro lo hlo hc
      simp only [cellsCanonical, Bool.and_eq_true, decide_eq_true_eq] at hc
      simp only [cellAt]
      rw [if_neg (by omega)]
      exact ih (b + 1) (by omega) hc.2
  induction cells generalizing lo with
  | nil =>
    simp only [insertCell]
    split
    · simp_all [cellAt]
    · simp [cellAt]
  | cons e rest ih =>
    obtain ⟨b, w⟩ := e
    have hc := h
    simp only [cellsCanonical, Bool.and_eq_true, decide_eq_true_eq] at hc
    simp only [insertCell]
    split
    · rename_i hab
      split
      · rename_i hv
        subst hv
        exact fresh ((b, w) :: rest) b hab (by simpa [cellsCanonical, hc.1.1.2, hc.2] using hc.1.2)
      · simp [cellAt]
    · split
      · rename_i hab
        subst hab
        split
        · rename_i hv
          subst hv
          exact fresh rest (a + 1) (by omega) hc.2
        · simp [cellAt]
      · rename_i h1 h2
        simp only [cellAt]
        rw [if_neg (fun hba => h2 hba.symm)]
        exact ih (b + 1) hc.2

/-- A write leaves every other byte alone. -/
theorem cellAt_insertCell_other (a b : Nat) (v : Byte) (cells : List Host.Cell) (h : b ≠ a) :
    cellAt (insertCell a v cells) b = cellAt cells b := by
  induction cells with
  | nil => simp only [insertCell]; split <;> simp [cellAt, Ne.symm h]
  | cons e rest ih =>
    obtain ⟨d, w⟩ := e
    simp only [insertCell]
    split
    · split
      · rfl
      · simp [cellAt, Ne.symm h]
    · split
      · rename_i hd
        subst hd
        split <;> simp [cellAt, Ne.symm h]
      · simp only [cellAt, ih]

/-- A longer trace keeps the canonical form of its cells. -/
theorem cellsCanonical_longer {len len' lo : Nat} {cells : List Host.Cell} (hl : len ≤ len')
    (h : cellsCanonical len lo cells = true) : cellsCanonical len' lo cells = true := by
  induction cells generalizing lo with
  | nil => rfl
  | cons e rest ih =>
    obtain ⟨a, v⟩ := e
    simp only [cellsCanonical, Bool.and_eq_true, decide_eq_true_eq] at h ⊢
    exact ⟨⟨⟨h.1.1.1, by omega⟩, h.1.2⟩, ih h.2⟩

/-- Writing a byte keeps the canonical form of the cells. -/
theorem cellsCanonical_insertCell {len lo a : Nat} {v : Byte} {cells : List Host.Cell} (hlo : lo ≤ a) (ha : a < len)
    (h : cellsCanonical len lo cells = true) : cellsCanonical len lo (insertCell a v cells) = true := by
  induction cells generalizing lo with
  | nil => simp only [insertCell]; split <;> simp_all [cellsCanonical]
  | cons e rest ih =>
    obtain ⟨b, w⟩ := e
    have hc := h
    simp only [cellsCanonical, Bool.and_eq_true, decide_eq_true_eq, bne_iff_ne] at hc
    obtain ⟨⟨⟨h1, h2⟩, h3⟩, h4⟩ := hc
    have tail : ∀ lo', lo' ≤ b + 1 → cellsCanonical len lo' rest = true := by
      intro lo' hl
      cases rest with
      | nil => rfl
      | cons e' rest' =>
        obtain ⟨d, u⟩ := e'
        simp only [cellsCanonical, Bool.and_eq_true, decide_eq_true_eq] at h4 ⊢
        exact ⟨⟨⟨by omega, h4.1.1.2⟩, h4.1.2⟩, h4.2⟩
    simp only [insertCell]
    split
    · split
      · exact h
      · simp only [cellsCanonical, Bool.and_eq_true, decide_eq_true_eq, bne_iff_ne]
        exact ⟨⟨⟨hlo, ha⟩, by assumption⟩, ⟨⟨by omega, h2⟩, h3⟩, h4⟩
    · split
      · rename_i hab
        subst hab
        split
        · exact tail lo (by omega)
        · simp only [cellsCanonical, Bool.and_eq_true, decide_eq_true_eq, bne_iff_ne]
          exact ⟨⟨⟨hlo, ha⟩, by assumption⟩, h4⟩
      · simp only [cellsCanonical, Bool.and_eq_true, decide_eq_true_eq, bne_iff_ne]
        exact ⟨⟨⟨h1, h2⟩, h3⟩, ih (by omega) h4⟩

/-- Every write keeps the canonical form of a trace. -/
theorem Memory.write_wf {m : Memory} (a : Nat) (v : Byte) (h : m.wf = true) : (m.write a v).wf = true :=
  cellsCanonical_insertCell (Nat.zero_le a) (by simp only [Memory.write]; omega)
    (cellsCanonical_longer (by simp only [Memory.write]; omega) h)

/-- Writing bytes keeps the canonical form of a trace. -/
theorem Memory.writeBytes_wf {m : Memory} (a : Nat) (bs : List Byte) (h : m.wf = true) : (m.writeBytes a bs).wf = true := by
  induction bs generalizing m a with
  | nil => exact h
  | cons v vs ih => exact ih (a + 1) (Memory.write_wf a v h)

/-- Read after write at the same address. -/
theorem Memory.read_write_self {m : Memory} (a : Nat) (v : Byte) (h : m.wf = true) : (m.write a v).read a = some v := by
  have hlen : a < (m.write a v).len := by simp only [Memory.write]; omega
  unfold Memory.read
  rw [if_pos hlen]
  exact congrArg some (cellAt_insertCell_self a v m.len 0 m.cells h)

/-- A write within the trace leaves every other byte alone. -/
theorem Memory.read_write_other {m : Memory} (a b : Nat) (v : Byte) (hab : b ≠ a) (ha : a < m.len) :
    (m.write a v).read b = m.read b := by
  simp only [Memory.read, Memory.write, cellAt_insertCell_other a b v m.cells hab]
  have : max m.len (a + 1) = m.len := by omega
  rw [this]

/-! ### TEARDOWN and conditions -/

/-- TEARDOWN with the guard clear: both banks zero, the messages of RESET ahead (R188). -/
theorem teardown_first {s : State} (h : s.teardownDone = false) :
    teardown s = { s with x := Bank.zero, c := Bank.zero, outbox := resetMessages, teardownDone := true, phase := .endReset } := by
  unfold teardown
  simp [h, beginReset]

/-- TEARDOWN with the guard set does nothing (R189). -/
theorem teardown_again {s : State} (h : s.teardownDone = true) : teardown s = s := if_pos h

/-- The end by truncation or interrupt, as the spec takes it: straight to TEARDOWN (R184, R186). -/
theorem endWithoutFlush_direct {s : State} (h : s.config.finalFlush ≠ .always) : endWithoutFlush s = teardown s := by
  unfold endWithoutFlush
  split
  · contradiction
  · rfl
  · rfl

/-- Normal completion, as the spec takes it: a final FLUSH (R112). -/
theorem completeStream_flush {s : State} (h : s.config.finalFlush ≠ .never) : completeStream s = beginFinalFlush s := by
  unfold completeStream
  split
  · contradiction
  · rfl
  · rfl

/-- What raising a condition never touches. -/
theorem raise_frame (e : Condition) (s : State) :
    (raise e s).pc = s.pc ∧ (raise e s).prevValid = s.prevValid ∧ (raise e s).prevClock = s.prevClock ∧
    (raise e s).anchor = s.anchor ∧ (raise e s).sinkOpen = s.sinkOpen ∧ (raise e s).irqPending = s.irqPending ∧
    (raise e s).config = s.config ∧ (raise e s).trace = s.trace ∧ (raise e s).now = s.now ∧
    (raise e s).arrivals = s.arrivals ∧ (raise e s).answers = s.answers ∧ (raise e s).out = s.out ∧
    (raise e s).diag = s.diag ++ [e] := by
  cases e <;> simp only [raise, endWithoutFlush] <;> (try split) <;> simp

/-! ### The sink -/

theorem sendThen_ok {m : Message} {after : State → State} {s : State} (ho : s.sinkOpen = true) (ha : sinkAccepts s = true) :
    sendThen m after s = .next (after (accept m s)) := by simp [sendThen, ho, ha]

theorem sendThen_fail {m : Message} {after : State → State} {s : State} (ho : s.sinkOpen = true)
    (ha : sinkAccepts s = false) : sendThen m after s = .next (raise (.sendFailure m) (turnAway s)) := by
  simp [sendThen, ho, ha]

theorem sendThen_closed {m : Message} {after : State → State} {s : State} (ho : s.sinkOpen = false) :
    sendThen m after s = .fault .sinkNotHeld := by simp [sendThen, ho]

/-- Everything a Send can answer with a next state. -/
theorem sendThen_next {m : Message} {after : State → State} {s t : State} (h : sendThen m after s = .next t) :
    s.sinkOpen = true ∧ ((sinkAccepts s = true ∧ t = after (accept m s)) ∨
      (sinkAccepts s = false ∧ t = raise (.sendFailure m) (turnAway s))) := by
  unfold sendThen at h
  split at h
  · refine ⟨by assumption, ?_⟩
    split at h
    · exact .inl ⟨by assumption, by injection h with h; exact h.symm⟩
    · exact .inr ⟨Bool.eq_false_iff.mpr (by assumption), by injection h with h; exact h.symm⟩
  · cases h

/-! ### Events -/

/-- The GATE lets an event through from its deadline on (R120, R122). -/
theorem tooEarly_eq_false {k : Tick} {s : State} : tooEarly k s = false ↔ s.anchor + k.toNat * 125 ≤ s.now :=
  (decide_eq_false_iff_not (p := s.now < deadline k s)).trans Nat.not_lt

/-- The GATE waits before the deadline (R121). -/
theorem tooEarly_eq_true {k : Tick} {s : State} : tooEarly k s = true ↔ s.now < s.anchor + k.toNat * 125 :=
  decide_eq_true_iff (p := s.now < deadline k s)

/-- A boundary is an accepted event before, of another clock (R93). -/
theorem boundary_eq_true {k : Tick} {s : State} : boundary k s = true ↔ s.prevValid = true ∧ k ≠ s.prevClock := by
  simp only [boundary, Bool.and_eq_true, bne_iff_ne]

theorem writeEvent_afterFlush {i : Instr} {slot : Fin 16} {k : Tick} {v : Byte} {s : State} (h : inEventFlush s = true) :
    writeEvent i slot k v s = .next (applyWrite slot k v s) := if_pos h

theorem writeEvent_early {i : Instr} {slot : Fin 16} {k : Tick} {v : Byte} {s : State} (hf : inEventFlush s = false)
    (he : tooEarly k s = true) : writeEvent i slot k v s = .next (waitInGate i s) := by simp [writeEvent, hf, he]

theorem writeEvent_boundary {i : Instr} {slot : Fin 16} {k : Tick} {v : Byte} {s : State} (hf : inEventFlush s = false)
    (he : tooEarly k s = false) (hb : boundary k s = true) :
    writeEvent i slot k v s = .next (startEventFlush i s) := by simp [writeEvent, hf, he, hb]

theorem writeEvent_merge {i : Instr} {slot : Fin 16} {k : Tick} {v : Byte} {s : State} (hf : inEventFlush s = false)
    (he : tooEarly k s = false) (hb : boundary k s = false) :
    writeEvent i slot k v s = .next (applyWrite slot k v s) := by simp [writeEvent, hf, he, hb]

/-- Everything an accepted event can do: it always answers a next state. -/
theorem writeEvent_cases (i : Instr) (slot : Fin 16) (k : Tick) (v : Byte) (s : State) :
    (inEventFlush s = true ∧ writeEvent i slot k v s = .next (applyWrite slot k v s)) ∨
    (inEventFlush s = false ∧ tooEarly k s = true ∧ writeEvent i slot k v s = .next (waitInGate i s)) ∨
    (inEventFlush s = false ∧ tooEarly k s = false ∧ boundary k s = true ∧
      writeEvent i slot k v s = .next (startEventFlush i s)) ∨
    (inEventFlush s = false ∧ tooEarly k s = false ∧ boundary k s = false ∧
      writeEvent i slot k v s = .next (applyWrite slot k v s)) := by
  rcases hf : inEventFlush s with _ | _ <;> rcases he : tooEarly k s with _ | _ <;> rcases hb : boundary k s with _ | _ <;>
    simp [writeEvent, hf, he, hb]

/-- Everything an invalid event can do: it always answers a next state. -/
theorem dropEvent_cases (i : Instr) (k : Tick) (r : Byte) (s : State) :
    (s.config.gateInvalid = true ∧ tooEarly k s = true ∧ dropEvent i k r s = .next (waitInGate i s)) ∨
    ((s.config.gateInvalid = false ∨ tooEarly k s = false) ∧
      dropEvent i k r s = .next (raise (.invalidRegisterIndex (s.pc - 1) r) s)) := by
  rcases hg : s.config.gateInvalid with _ | _ <;> rcases he : tooEarly k s with _ | _ <;> simp [dropEvent, hg, he]

/-! ### The step -/

/-- Everything a step can do: run one instruction that the sequencer hands over, or settle. -/
theorem step_next {s t : State} (h : step s = .next t) :
    (∃ i u, nextAction s = .run i u ∧ exec i u = .next t) ∨ nextAction s = .settle t := by
  unfold step at h
  split at h
  · rename_i i u hr
    exact .inl ⟨i, u, hr, h⟩
  · rename_i u hr
    injection h with h
    exact .inr (h ▸ hr)

/-- The record FETCH hands over. -/
theorem fetch_run {s u : State} {i : Instr} (h : fetch s = .run i u) :
    10 * s.pc + 10 ≤ s.trace.len ∧ u = pastRecord s ∧
      i = decodeRecord (recordOfBytes ((List.range 10).map fun k => cellAt s.trace.cells (10 * s.pc + k))) := by
  unfold fetch at h
  by_cases hlen : 10 * s.pc + 10 ≤ s.trace.len
  · rw [memRead_whole _ _ _ hlen] at h
    injection h with h1 h2
    exact ⟨hlen, h2.symm, h1.symm⟩
  · rw [memRead_short _ _ _ (by omega)] at h
    split at h <;> simp_all

/-- What the event loop runs: the record in progress, or the next one when no interrupt is pending. -/
theorem eventLoop_run {s u : State} {i : Instr} (h : eventLoop s = .run i u) :
    ((s.stage = .gate i ∨ s.stage = .flush i) ∧ u = s) ∨
    (s.stage = .fetch ∧ s.irqPending = false ∧ fetch s = .run i u) := by
  unfold eventLoop at h
  split at h
  · rename_i j hs
    injection h with h1 h2
    exact .inl ⟨.inl (h1 ▸ hs), h2.symm⟩
  · rename_i j hs
    injection h with h1 h2
    exact .inl ⟨.inr (h1 ▸ hs), h2.symm⟩
  · rename_i hs
    split at h
    · cases h
    · rename_i hirq
      exact .inr ⟨hs, Bool.eq_false_iff.mpr hirq, h⟩

/-- Where the sequencer gets the instruction of a step from: the outbox, or the event loop. -/
theorem sendOrAdvance_run {s u : State} {i : Instr} (h : sendOrAdvance s = .run i u) :
    (∃ rest, s.outbox = i :: rest ∧ u = withOutbox rest s) ∨
    (s.outbox = [] ∧ s.phase = .run ∧ eventLoop s = .run i u) := by
  unfold sendOrAdvance at h
  split at h
  · rename_i j rest hout
    injection h with h1 h2
    exact .inl ⟨rest, h1 ▸ hout, h2.symm⟩
  · rename_i hout
    unfold advance at h
    split at h <;> first | exact absurd h (by simp) | exact .inr ⟨hout, by assumption, h⟩

/-- A step that runs an instruction is within a session, after the inputs have acted. -/
theorem nextAction_run {s u : State} {i : Instr} (h : nextAction s = .run i u) :
    s.phase ≠ .off ∧ s.phase ≠ .done ∧ sendOrAdvance (sampleInputs s) = .run i u := by
  unfold nextAction at h
  split at h <;> simp_all

/-- Where a step settles: session start, the end, or an action of the sequencer after the inputs have acted. -/
theorem nextAction_settle {s t : State} (h : nextAction s = .settle t) :
    (s.phase = .off ∧ t = startSession s) ∨ (s.phase = .done ∧ t = s) ∨
    (s.phase ≠ .off ∧ s.phase ≠ .done ∧ s.outbox = [] ∧ advance (sampleInputs s) = .settle t) := by
  have key : sendOrAdvance (sampleInputs s) = .settle t → s.outbox = [] ∧ advance (sampleInputs s) = .settle t := by
    intro h
    unfold sendOrAdvance at h
    split at h
    · cases h
    · exact ⟨by simpa using ‹(sampleInputs s).outbox = []›, h⟩
  unfold nextAction at h
  split at h
  · injection h with h
    exact .inl ⟨by assumption, h.symm⟩
  · injection h with h
    exact .inr (.inl ⟨by assumption, h.symm⟩)
  all_goals exact .inr (.inr ⟨by simp_all, by simp_all, key h⟩)

/-- Everything the sequencer does between instructions within a session. -/
theorem advance_settle {s t : State} (h : advance s = .settle t) :
    (s.phase = .off ∧ t = startSession s) ∨ (s.phase = .startReset ∧ t = beginRun s) ∨
    (s.phase = .run ∧ s.stage = .fetch ∧ s.irqPending = true ∧ t = raise .interrupt s) ∨
    (s.phase = .run ∧ s.stage = .fetch ∧ s.irqPending = false ∧ s.trace.len - 10 * s.pc = 0 ∧ t = completeStream s) ∨
    (s.phase = .run ∧ s.stage = .fetch ∧ s.irqPending = false ∧ 0 < s.trace.len - 10 * s.pc ∧
      s.trace.len < 10 * s.pc + 10 ∧ t = raise (.streamTruncated s.pc (s.trace.len - 10 * s.pc)) s) ∨
    (s.phase = .finalFlush ∧ t = teardown s) ∨ (s.phase = .endReset ∧ t = closeSink s) ∨
    (s.phase = .done ∧ t = s) := by
  unfold advance at h
  split at h
  · injection h with h; simp_all
  · injection h with h; simp_all
  · rename_i hp
    unfold eventLoop at h
    split at h
    · cases h
    · cases h
    · rename_i hs
      split at h
      · injection h with h; simp_all
      · rename_i hirq
        unfold fetch at h
        by_cases hlen : 10 * s.pc + 10 ≤ s.trace.len
        · rw [memRead_whole _ _ _ hlen] at h; cases h
        · rw [memRead_short _ _ _ (by omega)] at h
          rcases hk : s.trace.len - 10 * s.pc with _ | k
          · rw [hk] at h
            injection h with h
            simp_all
          · rw [hk] at h
            injection h with h
            refine .inr (.inr (.inr (.inr (.inl ⟨hp, hs, by simpa using hirq, by omega, by omega, h.symm⟩))))
  · injection h with h; simp_all
  · injection h with h; simp_all
  · injection h with h; simp_all

end Sys2Proof.Machine
end

