-- ==== Sys2Proof/Laws/Exec.lean ====
section
/-! SUPPORT. What `exec` is for each class of rows: a slot write, an invalid event, a message. -/

namespace Sys2Proof.Machine

open Sys2Proof

/-- What follows an accepted Send of a row: the commit after the end-update (R143), nothing after any other. -/
def afterSend (i : Instr) : State → State := if i = .msgLatchDisable then commitFlush else id

/-- Every row is one of three kinds, each over one shared operation. -/
theorem exec_kinds (i : Instr) :
    (∃ (slot : Fin 16) (k : Tick) (v : Byte), slot.val < 14 ∧ i.writeClock? = some k ∧ i.isMessage = false ∧
      ∀ s, exec i s = writeEvent i slot k v s) ∨
    (i.writeClock? = none ∧ i.isMessage = false ∧ ∃ (k : Tick) (r : Byte), ∀ s, exec i s = dropEvent i k r s) ∨
    (i.isMessage = true ∧ i.writeClock? = none ∧
      ∀ s, ∃ m, onWire s.config i = some m ∧ exec i s = sendThen m (afterSend i) s) := by
  cases i
  all_goals first
    | exact .inl ⟨_, _, _, by decide, rfl, rfl, fun _ => rfl⟩
    | exact .inr (.inl ⟨rfl, rfl, _, _, fun _ => rfl⟩)
    | exact .inr (.inr ⟨rfl, rfl, fun _ => ⟨_, rfl, rfl⟩⟩)

/-- A message row is one Send of what it stands for on the wire. -/
theorem exec_message {i : Instr} (h : i.isMessage = true) (s : State) :
    ∃ m, onWire s.config i = some m ∧ exec i s = sendThen m (afterSend i) s := by
  rcases exec_kinds i with ⟨_, _, _, _, _, h', _⟩ | ⟨_, h', _⟩ | ⟨_, _, h'⟩
  · rw [h] at h'; cases h'
  · rw [h] at h'; cases h'
  · exact h' s

@[simp] theorem afterSend_latchDisable : afterSend .msgLatchDisable = commitFlush := rfl

theorem afterSend_other {i : Instr} (h : i ≠ .msgLatchDisable) : afterSend i = id := if_neg h

end Sys2Proof.Machine
end

