-- ==== Sys2Proof/Laws/PerInstr.lean ====
section
/-! SUPPORT. Statements made per instruction, one lemma per constructor of `Instr`. -/

namespace Sys2Proof.Laws

open Sys2Proof

/-- A record is ten bytes and a message word two, whatever they hold (R70, R75, R82). -/
def EncodingLength.Statement (i : Instr) : Prop := (encode i).length = if i.isMessage then 2 else 10

theorem EncodingLength.wr0 (k : Tick) (v : Byte) : EncodingLength.Statement (.wr0 k v) := rfl
theorem EncodingLength.wr1 (k : Tick) (v : Byte) : EncodingLength.Statement (.wr1 k v) := rfl
theorem EncodingLength.wr2 (k : Tick) (v : Byte) : EncodingLength.Statement (.wr2 k v) := rfl
theorem EncodingLength.wr3 (k : Tick) (v : Byte) : EncodingLength.Statement (.wr3 k v) := rfl
theorem EncodingLength.wr4 (k : Tick) (v : Byte) : EncodingLength.Statement (.wr4 k v) := rfl
theorem EncodingLength.wr5 (k : Tick) (v : Byte) : EncodingLength.Statement (.wr5 k v) := rfl
theorem EncodingLength.wr6 (k : Tick) (v : Byte) : EncodingLength.Statement (.wr6 k v) := rfl
theorem EncodingLength.wr7 (k : Tick) (v : Byte) : EncodingLength.Statement (.wr7 k v) := rfl
theorem EncodingLength.wr8 (k : Tick) (v : Byte) : EncodingLength.Statement (.wr8 k v) := rfl
theorem EncodingLength.wr9 (k : Tick) (v : Byte) : EncodingLength.Statement (.wr9 k v) := rfl
theorem EncodingLength.wr10 (k : Tick) (v : Byte) : EncodingLength.Statement (.wr10 k v) := rfl
theorem EncodingLength.wr11 (k : Tick) (v : Byte) : EncodingLength.Statement (.wr11 k v) := rfl
theorem EncodingLength.wr12 (k : Tick) (v : Byte) : EncodingLength.Statement (.wr12 k v) := rfl
theorem EncodingLength.wr13 (k : Tick) (v : Byte) : EncodingLength.Statement (.wr13 k v) := rfl
theorem EncodingLength.invalid0E (k : Tick) (r v : Byte) : EncodingLength.Statement (.invalid0E k r v) := rfl
theorem EncodingLength.invalid10 (k : Tick) (r v : Byte) : EncodingLength.Statement (.invalid10 k r v) := rfl
theorem EncodingLength.invalid20 (k : Tick) (r v : Byte) : EncodingLength.Statement (.invalid20 k r v) := rfl
theorem EncodingLength.invalid40 (k : Tick) (r v : Byte) : EncodingLength.Statement (.invalid40 k r v) := rfl
theorem EncodingLength.invalid80 (k : Tick) (r v : Byte) : EncodingLength.Statement (.invalid80 k r v) := rfl
theorem EncodingLength.msgAFreqHi (p : Byte) : EncodingLength.Statement (.msgAFreqHi p) := rfl
theorem EncodingLength.msgAFreqLo (p : Byte) : EncodingLength.Statement (.msgAFreqLo p) := rfl
theorem EncodingLength.msgBFreqHi (p : Byte) : EncodingLength.Statement (.msgBFreqHi p) := rfl
theorem EncodingLength.msgBFreqLo (p : Byte) : EncodingLength.Statement (.msgBFreqLo p) := rfl
theorem EncodingLength.msgCFreqHi (p : Byte) : EncodingLength.Statement (.msgCFreqHi p) := rfl
theorem EncodingLength.msgCFreqLo (p : Byte) : EncodingLength.Statement (.msgCFreqLo p) := rfl
theorem EncodingLength.msgNoise (p : Byte) : EncodingLength.Statement (.msgNoise p) := rfl
theorem EncodingLength.msgMixer (p : Byte) : EncodingLength.Statement (.msgMixer p) := rfl
theorem EncodingLength.msgALevel (p : Byte) : EncodingLength.Statement (.msgALevel p) := rfl
theorem EncodingLength.msgBLevel (p : Byte) : EncodingLength.Statement (.msgBLevel p) := rfl
theorem EncodingLength.msgCLevel (p : Byte) : EncodingLength.Statement (.msgCLevel p) := rfl
theorem EncodingLength.msgEnvFreqHi (p : Byte) : EncodingLength.Statement (.msgEnvFreqHi p) := rfl
theorem EncodingLength.msgEnvFreqMid (p : Byte) : EncodingLength.Statement (.msgEnvFreqMid p) := rfl
theorem EncodingLength.msgEnvFreqLo (p : Byte) : EncodingLength.Statement (.msgEnvFreqLo p) := rfl
theorem EncodingLength.msgEnvShape (p : Byte) : EncodingLength.Statement (.msgEnvShape p) := rfl
theorem EncodingLength.msgLatchEnable : EncodingLength.Statement .msgLatchEnable := rfl
theorem EncodingLength.msgLatchDisable : EncodingLength.Statement .msgLatchDisable := rfl
theorem EncodingLength.msgLatchInit : EncodingLength.Statement .msgLatchInit := rfl

end Sys2Proof.Laws
end

