-- ==== Sys2Proof/Tests/Slice0.lean ====
section
/-! SUPPORT. The model's own tests, each a named theorem: the checks of WellFormed, decoding of written-out words, one step
per row, the spec's vectors (95_test_vectors.md), and one concrete case that meets the hypotheses of each statement. -/

namespace Sys2Proof.Tests

open Sys2Proof Sys2Proof.Machine Sys2Proof.Claims

/-! ### Helpers -/

/-- A next state with a property. -/
def nextWith (o : Host.Outcome State Fault Refusal) (p : State → Bool) : Bool :=
  match o with
  | .next t => p t
  | .fault _ => false
  | .refused _ => false

/-- The first step after reset on a table word. -/
def firstStep (nbits w : Nat) (p : State → Bool) : Bool := nextWith (step (State.reset.withFetchWord nbits w)) p

/-- A bank with some slots set. -/
def bank (slots : List (Fin 16 × Byte)) : Bank := slots.foldl (fun b e => b.set e.1 e.2) Bank.zero

/-- In the event loop, about to fetch, nothing sent, time and anchor 0. -/
def sRun : State := { State.reset with phase := .run, outbox := [] }

/-- In the event loop at time 2000 with a previous event of clock 5. -/
def sEvent : State := { sRun with prevValid := true, prevClock := 5, now := 2000, x := bank [(6, 5)], pc := 1,
                                  trace := { cells := [(9, 1)], len := 10 } }

/-- In the FLUSH of step 5 with the event `WR7 8, 1` held back. -/
def sFlush : State := { sEvent with stage := .flush (.wr7 8 1), outbox := flushMessages Config.default sEvent.x sEvent.c }

/-- In the teardown RESET. -/
def sTeardown : State := { State.reset with phase := .endReset, teardownDone := true, exitCause := .interrupt }

/-- After the session. -/
def sDone : State := { sTeardown with phase := .done, sinkOpen := false, outbox := [] }

/-! ### Well-formedness: every check refuses an ill-formed term -/

theorem test_wf_refuses_invalid0E : (Instr.invalid0E 0 0x10 0).wf = false ∧ (Instr.invalid0E 0 0x0D 0).wf = false := by decide
theorem test_wf_refuses_invalid10 : (Instr.invalid10 0 0x0F 0).wf = false ∧ (Instr.invalid10 0 0x20 0).wf = false := by decide
theorem test_wf_refuses_invalid20 : (Instr.invalid20 0 0x1F 0).wf = false ∧ (Instr.invalid20 0 0x40 0).wf = false := by decide
theorem test_wf_refuses_invalid40 : (Instr.invalid40 0 0x3F 0).wf = false ∧ (Instr.invalid40 0 0x80 0).wf = false := by decide
theorem test_wf_refuses_invalid80 : (Instr.invalid80 0 0x7F 0).wf = false := by decide
theorem test_wf_refuses_msgAFreqHi : (Instr.msgAFreqHi 128).wf = false := by decide
theorem test_wf_refuses_msgBFreqHi : (Instr.msgBFreqHi 128).wf = false := by decide
theorem test_wf_refuses_msgCFreqHi : (Instr.msgCFreqHi 128).wf = false := by decide
theorem test_wf_refuses_msgAFreqLo : (Instr.msgAFreqLo 1).wf = false ∧ (Instr.msgAFreqLo 2).wf = false ∧ (Instr.msgAFreqLo 128).wf = false := by decide
theorem test_wf_refuses_msgBFreqLo : (Instr.msgBFreqLo 1).wf = false ∧ (Instr.msgBFreqLo 2).wf = false ∧ (Instr.msgBFreqLo 128).wf = false := by decide
theorem test_wf_refuses_msgCFreqLo : (Instr.msgCFreqLo 1).wf = false ∧ (Instr.msgCFreqLo 2).wf = false ∧ (Instr.msgCFreqLo 128).wf = false := by decide
theorem test_wf_refuses_msgNoise : (Instr.msgNoise 1).wf = false ∧ (Instr.msgNoise 2).wf = false ∧ (Instr.msgNoise 128).wf = false := by decide
theorem test_wf_refuses_msgMixer : (Instr.msgMixer 1).wf = false ∧ (Instr.msgMixer 128).wf = false := by decide
theorem test_wf_refuses_msgALevel : (Instr.msgALevel 1).wf = false ∧ (Instr.msgALevel 2).wf = false ∧ (Instr.msgALevel 128).wf = false := by decide
theorem test_wf_refuses_msgBLevel : (Instr.msgBLevel 1).wf = false ∧ (Instr.msgBLevel 2).wf = false ∧ (Instr.msgBLevel 128).wf = false := by decide
theorem test_wf_refuses_msgCLevel : (Instr.msgCLevel 1).wf = false ∧ (Instr.msgCLevel 2).wf = false ∧ (Instr.msgCLevel 128).wf = false := by decide
theorem test_wf_refuses_msgEnvFreqHi : (Instr.msgEnvFreqHi 128).wf = false := by decide
theorem test_wf_refuses_msgEnvFreqMid : (Instr.msgEnvFreqMid 128).wf = false := by decide
theorem test_wf_refuses_msgEnvFreqLo : (Instr.msgEnvFreqLo 1).wf = false ∧ (Instr.msgEnvFreqLo 16).wf = false ∧ (Instr.msgEnvFreqLo 128).wf = false := by decide
theorem test_wf_refuses_msgEnvShape : (Instr.msgEnvShape 1).wf = false ∧ (Instr.msgEnvShape 4).wf = false ∧ (Instr.msgEnvShape 128).wf = false := by decide

/-- Two equal addresses, an address of 8 bits, and each latch payload of 8 bits are refused (R7, R75). -/
theorem test_wf_refuses_configurations :
    { Config.default with addr := { Addr.default with latch := 20 } }.wf = false ∧
    { Config.default with addr := { Addr.default with latch := 128 } }.wf = false ∧
    { Config.default with latchEnable := 128 }.wf = false ∧ { Config.default with latchDisable := 128 }.wf = false ∧
    { Config.default with latchInit := 128 }.wf = false := by decide

/-- Falling addresses, a listed zero byte and a byte past the end are refused (log 9). -/
theorem test_wf_refuses_traces :
    ({ cells := [(1, 1), (0, 1)], len := 9 } : Memory).wf = false ∧ ({ cells := [(0, 0)], len := 9 } : Memory).wf = false ∧
    ({ cells := [(9, 1)], len := 9 } : Memory).wf = false := by decide

/-! ### Decoding of words written out from the spec's encodings (R71, R79, R80, R75, R76) -/

theorem test_decode_wr0 : decode [1, 2, 3, 4, 5, 6, 7, 8, 0x00, 0xAA] = .ok (.wr0 72623859790382856 0xAA) := by decide
theorem test_decode_wr1 : decode [0, 0, 0, 0, 0, 0, 0, 0, 0x01, 0x02] = .ok (.wr1 0 2) := by decide
theorem test_decode_wr2 : decode [0, 0, 0, 0, 0, 0, 0x1F, 0x40, 0x02, 0x01] = .ok (.wr2 8000 1) := by decide
theorem test_decode_wr3 : decode [0, 0, 0, 0, 0, 0, 0, 0, 0x03, 0x0F] = .ok (.wr3 0 15) := by decide
theorem test_decode_wr4 : decode [0, 0, 0, 0, 0, 0, 0x1F, 0x40, 0x04, 0x20] = .ok (.wr4 8000 0x20) := by decide
theorem test_decode_wr5 : decode [0, 0, 0, 0, 0, 0, 0x1F, 0x40, 0x05, 0x08] = .ok (.wr5 8000 8) := by decide
theorem test_decode_wr6 : decode [0, 0, 0, 0, 0, 0, 0x1F, 0x40, 0x06, 0x1F] = .ok (.wr6 8000 0x1F) := by decide
theorem test_decode_wr7 : decode [0, 0, 0, 0, 0, 0, 0x1F, 0x40, 0x07, 0x3F] = .ok (.wr7 8000 0x3F) := by decide
theorem test_decode_wr8 : decode [0, 0, 0, 0, 0, 0, 0x1F, 0x40, 0x08, 0x0F] = .ok (.wr8 8000 0x0F) := by decide
theorem test_decode_wr9 : decode [0, 0, 0, 0, 0, 0, 0x1F, 0x40, 0x09, 0x10] = .ok (.wr9 8000 0x10) := by decide
theorem test_decode_wr10 : decode [0, 0, 0, 0, 0, 0, 0x1F, 0x40, 0x0A, 0x1F] = .ok (.wr10 8000 0x1F) := by decide
theorem test_decode_wr11 : decode [0, 0, 0, 0, 0, 0, 0x1F, 0x40, 0x0B, 0x34] = .ok (.wr11 8000 0x34) := by decide
theorem test_decode_wr12 : decode [0, 0, 0, 0, 0, 0, 0x1F, 0x40, 0x0C, 0x12] = .ok (.wr12 8000 0x12) := by decide
theorem test_decode_wr13 : decode [0, 0, 0, 0, 0, 0, 0x3E, 0x80, 0x0D, 0x0A] = .ok (.wr13 16000 0x0A) := by decide
theorem test_decode_invalid0E : decode [0, 0, 0, 0, 0, 0, 0, 9, 0x0E, 0x77] = .ok (.invalid0E 9 14 0x77) := by decide
theorem test_decode_invalid10 : decode [0, 0, 0, 0, 0, 0, 0, 0, 0x10, 0x01] = .ok (.invalid10 0 16 1) := by decide
theorem test_decode_invalid20 : decode [0, 0, 0, 0, 0, 0, 0, 0, 0x3F, 0x01] = .ok (.invalid20 0 63 1) := by decide
theorem test_decode_invalid40 : decode [0, 0, 0, 0, 0, 0, 0, 0, 0x40, 0x01] = .ok (.invalid40 0 64 1) := by decide
theorem test_decode_invalid80 : decode [0, 0, 0, 0, 0, 0, 0, 5, 0xC8, 0x01] = .ok (.invalid80 5 200 1) := by decide
theorem test_decode_msgAFreqHi : decode [20, 17] = .ok (.msgAFreqHi 17) := by decide
theorem test_decode_msgAFreqLo : decode [52, 80] = .ok (.msgAFreqLo 80) := by decide
theorem test_decode_msgBFreqHi : decode [21, 7] = .ok (.msgBFreqHi 7) := by decide
theorem test_decode_msgBFreqLo : decode [53, 124] = .ok (.msgBFreqLo 124) := by decide
theorem test_decode_msgCFreqHi : decode [22, 64] = .ok (.msgCFreqHi 64) := by decide
theorem test_decode_msgCFreqLo : decode [54, 40] = .ok (.msgCFreqLo 40) := by decide
theorem test_decode_msgNoise : decode [23, 124] = .ok (.msgNoise 124) := by decide
theorem test_decode_msgMixer : decode [24, 126] = .ok (.msgMixer 126) := by decide
theorem test_decode_msgALevel : decode [25, 60] = .ok (.msgALevel 60) := by decide
theorem test_decode_msgBLevel : decode [26, 64] = .ok (.msgBLevel 64) := by decide
theorem test_decode_msgCLevel : decode [27, 124] = .ok (.msgCLevel 124) := by decide
theorem test_decode_msgEnvFreqHi : decode [28, 9] = .ok (.msgEnvFreqHi 9) := by decide
theorem test_decode_msgEnvFreqMid : decode [29, 36] = .ok (.msgEnvFreqMid 36) := by decide
theorem test_decode_msgEnvFreqLo : decode [30, 32] = .ok (.msgEnvFreqLo 32) := by decide
theorem test_decode_msgEnvShape : decode [31, 80] = .ok (.msgEnvShape 80) := by decide
theorem test_decode_msgLatchEnable : decode [80, 64] = .ok .msgLatchEnable := by decide
theorem test_decode_msgLatchDisable : decode [80, 0] = .ok .msgLatchDisable := by decide
theorem test_decode_msgLatchInit : decode [80, 127] = .ok .msgLatchInit := by decide

/-- V41, V43, and the ends of the ranges of R80. -/
theorem test_decode_invalid_bounds :
    decode [0, 0, 0, 0, 0, 0, 0, 5, 0x0F, 0x01] = .ok (.invalid0E 5 15 1) ∧
    decode [0, 0, 0, 0, 0, 0, 0, 5, 0x1F, 0x01] = .ok (.invalid10 5 31 1) ∧
    decode [0, 0, 0, 0, 0, 0, 0, 5, 0x20, 0x01] = .ok (.invalid20 5 32 1) ∧
    decode [0, 0, 0, 0, 0, 0, 0, 5, 0x7F, 0x01] = .ok (.invalid40 5 127 1) ∧
    decode [0, 0, 0, 0, 0, 0, 0, 5, 0x80, 0x01] = .ok (.invalid80 5 128 1) ∧
    decode [255, 255, 255, 255, 255, 255, 255, 255, 255, 255] = .ok (.invalid80 18446744073709551615 255 255) := by decide

/-- Bytes that are no record and no message of the table are refused by name. -/
theorem test_decode_refuses :
    decode [] = .error (.wrongLength 0) ∧ decode [20] = .error (.wrongLength 1) ∧
    decode [1, 2, 3, 4, 5, 6, 7, 8, 9] = .error (.wrongLength 9) ∧
    decode [19, 0] = .error (.noSuchMessage 19 0) ∧ decode [80, 1] = .error (.noSuchMessage 80 1) ∧
    decode [52, 0x82] = .error (.noSuchMessage 52 0x82) := by decide

/-- The table numbers a record as the spec does, `clock` in bits 79:16 (R71), and a message `address` in 15:8 (R75). -/
theorem test_decode_table_words :
    decodeTableWord 80 0x010203040506070800AA = some (.wr0 72623859790382856 0xAA) ∧
    decodeTableWord 16 0x1411 = some (.msgAFreqHi 17) ∧ decodeTableWord 16 0x507F = some .msgLatchInit := by decide

theorem test_encode_words :
    encode (.wr7 3 0x3F) = [0, 0, 0, 0, 0, 0, 0, 3, 7, 0x3F] ∧ encode (.invalid80 5 200 1) = [0, 0, 0, 0, 0, 0, 0, 5, 0xC8, 1] ∧
    encode (.msgMixer 126) = [24, 126] := by decide

/-! ### One step per row: the first step after reset -/

/- R97 to R110: the slot takes the whole byte, the clock is tracked, `pc` is past the record. -/
theorem test_step_wr0 : firstStep 80 0x00000000000000000034 (fun t =>
    t.x == bank [(0, 0x34)] && t.prevValid && t.prevClock == 0 && t.pc == 1 && t.c == Bank.zero && t.out == []) = true := by
  decide
theorem test_step_wr1 : firstStep 80 0x00000000000000000102 (fun t =>
    t.x == bank [(1, 0x02)] && t.prevValid && t.prevClock == 0 && t.pc == 1 && t.c == Bank.zero && t.out == []) = true := by
  decide
theorem test_step_wr2 : firstStep 80 0x000000000000000002FF (fun t =>
    t.x == bank [(2, 0xFF)] && t.prevValid && t.prevClock == 0 && t.pc == 1 && t.c == Bank.zero && t.out == []) = true := by
  decide
theorem test_step_wr3 : firstStep 80 0x0000000000000000030F (fun t =>
    t.x == bank [(3, 0x0F)] && t.prevValid && t.prevClock == 0 && t.pc == 1 && t.c == Bank.zero && t.out == []) = true := by
  decide
theorem test_step_wr4 : firstStep 80 0x00000000000000000420 (fun t =>
    t.x == bank [(4, 0x20)] && t.prevValid && t.prevClock == 0 && t.pc == 1 && t.c == Bank.zero && t.out == []) = true := by
  decide
theorem test_step_wr5 : firstStep 80 0x00000000000000000508 (fun t =>
    t.x == bank [(5, 0x08)] && t.prevValid && t.prevClock == 0 && t.pc == 1 && t.c == Bank.zero && t.out == []) = true := by
  decide
theorem test_step_wr6 : firstStep 80 0x0000000000000000061F (fun t =>
    t.x == bank [(6, 0x1F)] && t.prevValid && t.prevClock == 0 && t.pc == 1 && t.c == Bank.zero && t.out == []) = true := by
  decide
theorem test_step_wr7 : firstStep 80 0x0000000000000000073F (fun t =>
    t.x == bank [(7, 0x3F)] && t.prevValid && t.prevClock == 0 && t.pc == 1 && t.c == Bank.zero && t.out == []) = true := by
  decide
theorem test_step_wr8 : firstStep 80 0x0000000000000000080F (fun t =>
    t.x == bank [(8, 0x0F)] && t.prevValid && t.prevClock == 0 && t.pc == 1 && t.c == Bank.zero && t.out == []) = true := by
  decide
theorem test_step_wr9 : firstStep 80 0x00000000000000000910 (fun t =>
    t.x == bank [(9, 0x10)] && t.prevValid && t.prevClock == 0 && t.pc == 1 && t.c == Bank.zero && t.out == []) = true := by
  decide
theorem test_step_wr10 : firstStep 80 0x00000000000000000A1F (fun t =>
    t.x == bank [(10, 0x1F)] && t.prevValid && t.prevClock == 0 && t.pc == 1 && t.c == Bank.zero && t.out == []) = true := by
  decide
theorem test_step_wr11 : firstStep 80 0x00000000000000000B0C (fun t =>
    t.x == bank [(11, 0x0C)] && t.prevValid && t.prevClock == 0 && t.pc == 1 && t.c == Bank.zero && t.out == []) = true := by
  decide
theorem test_step_wr12 : firstStep 80 0x00000000000000000C12 (fun t =>
    t.x == bank [(12, 0x12)] && t.prevValid && t.prevClock == 0 && t.pc == 1 && t.c == Bank.zero && t.out == []) = true := by
  decide
theorem test_step_wr13 : firstStep 80 0x00000000000000000D0F (fun t =>
    t.x == bank [(13, 0x0F)] && t.prevValid && t.prevClock == 0 && t.pc == 1 && t.c == Bank.zero && t.out == []) = true := by
  decide
/- R94, V40 to V43: dropped with a warning. -/
theorem test_step_invalid0E : firstStep 80 0x00000000000000000E01 (fun t =>
    t.x == Bank.zero && !t.prevValid && t.pc == 1 && t.warnCount == 1 && t.diag == [.invalidRegisterIndex 0 14]) = true := by
  decide
theorem test_step_invalid10 : firstStep 80 0x00000000000000001001 (fun t =>
    t.x == Bank.zero && !t.prevValid && t.pc == 1 && t.warnCount == 1 && t.diag == [.invalidRegisterIndex 0 16]) = true := by
  decide
theorem test_step_invalid20 : firstStep 80 0x00000000000000002001 (fun t =>
    t.x == Bank.zero && !t.prevValid && t.pc == 1 && t.warnCount == 1 && t.diag == [.invalidRegisterIndex 0 32]) = true := by
  decide
theorem test_step_invalid40 : firstStep 80 0x00000000000000004001 (fun t =>
    t.x == Bank.zero && !t.prevValid && t.pc == 1 && t.warnCount == 1 && t.diag == [.invalidRegisterIndex 0 64]) = true := by
  decide
theorem test_step_invalid80 : firstStep 80 0x00000000000000008001 (fun t =>
    t.x == Bank.zero && !t.prevValid && t.pc == 1 && t.warnCount == 1 && t.diag == [.invalidRegisterIndex 0 128]) = true := by
  decide
/- R75, R76: the message is appended to `out`. -/
theorem test_step_msgAFreqHi : firstStep 16 0x1411 (fun t => t.out == [⟨20, 17⟩] && t.phase == .startReset) = true := by decide
theorem test_step_msgAFreqLo : firstStep 16 0x3450 (fun t => t.out == [⟨52, 80⟩] && t.phase == .startReset) = true := by decide
theorem test_step_msgBFreqHi : firstStep 16 0x1507 (fun t => t.out == [⟨21, 7⟩] && t.phase == .startReset) = true := by decide
theorem test_step_msgBFreqLo : firstStep 16 0x357C (fun t => t.out == [⟨53, 124⟩] && t.phase == .startReset) = true := by decide
theorem test_step_msgCFreqHi : firstStep 16 0x1640 (fun t => t.out == [⟨22, 64⟩] && t.phase == .startReset) = true := by decide
theorem test_step_msgCFreqLo : firstStep 16 0x3628 (fun t => t.out == [⟨54, 40⟩] && t.phase == .startReset) = true := by decide
theorem test_step_msgNoise : firstStep 16 0x177C (fun t => t.out == [⟨23, 124⟩] && t.phase == .startReset) = true := by decide
theorem test_step_msgMixer : firstStep 16 0x187E (fun t => t.out == [⟨24, 126⟩] && t.phase == .startReset) = true := by decide
theorem test_step_msgALevel : firstStep 16 0x193C (fun t => t.out == [⟨25, 60⟩] && t.phase == .startReset) = true := by decide
theorem test_step_msgBLevel : firstStep 16 0x1A40 (fun t => t.out == [⟨26, 64⟩] && t.phase == .startReset) = true := by decide
theorem test_step_msgCLevel : firstStep 16 0x1B7C (fun t => t.out == [⟨27, 124⟩] && t.phase == .startReset) = true := by decide
theorem test_step_msgEnvFreqHi : firstStep 16 0x1C09 (fun t => t.out == [⟨28, 9⟩] && t.phase == .startReset) = true := by decide
theorem test_step_msgEnvFreqMid : firstStep 16 0x1D24 (fun t => t.out == [⟨29, 36⟩] && t.phase == .startReset) = true := by decide
theorem test_step_msgEnvFreqLo : firstStep 16 0x1E20 (fun t => t.out == [⟨30, 32⟩] && t.phase == .startReset) = true := by decide
theorem test_step_msgEnvShape : firstStep 16 0x1F50 (fun t => t.out == [⟨31, 80⟩] && t.phase == .startReset) = true := by decide
theorem test_step_msgLatchEnable : firstStep 16 0x5040 (fun t => t.out == [⟨80, 64⟩] && t.phase == .startReset) = true := by decide
theorem test_step_msgLatchDisable : firstStep 16 0x5000 (fun t => t.out == [⟨80, 0⟩] && t.phase == .startReset) = true := by decide
theorem test_step_msgLatchInit : firstStep 16 0x507F (fun t => t.out == [⟨80, 127⟩] && t.phase == .startReset) = true := by decide

/-- R143: the end-update of a FLUSH commits. -/
theorem test_endUpdate_commits :
    nextWith (exec .msgLatchDisable sFlush) (fun t => t.c == sFlush.x && t.out == [⟨80, 0⟩]) = true := by decide

/-- R98, R81: a masked value byte is stored whole. -/
theorem test_wr1_stores_all_bits : nextWith (exec (.wr1 5 0xF2) sEvent) (fun t => t.x[1] == 0xF2) = true := by decide

/-- V45: the write-back within a batch. -/
theorem test_wr6_same_clock : nextWith (exec (.wr6 5 0) sEvent) (fun t => t.x == Bank.zero && t.outbox == []) = true := by decide

/-- V46: the FLUSH first, the write not yet. -/
theorem test_wr0_boundary : nextWith (exec (.wr0 8 0x10) sEvent) (fun t =>
    t.x == sEvent.x && t.prevClock == 5 && wire t.config t.outbox == [⟨80, 64⟩, ⟨23, 20⟩, ⟨80, 0⟩] &&
    t.stage == .flush (.wr0 8 0x10)) = true := by decide

/-- V47: a clock that goes backwards is a boundary too. -/
theorem test_wr0_backwards : nextWith (exec (.wr0 3 0x11) sEvent) (fun t => t.stage == .flush (.wr0 3 0x11)) = true := by decide

/-- V44 and P11: no boundary before the first event, whatever its clock. -/
theorem test_wr7_first_event : nextWith (exec (.wr7 7 1) { sRun with now := 875 }) (fun t =>
    t.prevClock == 7 && t.x[7] == 1 && t.outbox == []) = true := by decide

/-- P11 under `PREV_CLOCK_INIT = 0` (D2): the first event of clock 7 is a boundary. -/
theorem test_prevClockInit_zero :
    nextWith (step { sDone with phase := .off, config := { Config.default with prevClockInit := .zero } }) (fun t =>
      t.prevValid && t.prevClock == 0 && t.phase == .startReset) = true := by decide

/-! ### Vectors of 95_test_vectors.md -/

/-- The payloads of a frequency field from its two slots. -/
def frequencyPayloads (lo hi : Byte) : Nat × Nat × Nat :=
  (fA (bank [(0, lo), (1, hi)]), (encFreqHi (fA (bank [(0, lo), (1, hi)]))).toNat, (encFreqLo (fA (bank [(0, lo), (1, hi)]))).toNat)

/-- V1 to V12. -/
theorem test_vectors_frequency :
    ([(0x00, 0x00), (0x01, 0x00), (0x1F, 0x00), (0x20, 0x00), (0xFF, 0x00), (0x00, 0x01), (0x34, 0x02), (0xFF, 0x0F),
      (0xFF, 0xFF), (0x00, 0xF0), (0xAA, 0x05), (0x55, 0x0A)] : List (Byte × Byte)).map (fun p => frequencyPayloads p.1 p.2) =
    [(0x000, 0, 0), (0x001, 0, 4), (0x01F, 0, 124), (0x020, 1, 0), (0x0FF, 7, 124), (0x100, 8, 0), (0x234, 17, 80),
     (0xFFF, 127, 124), (0xFFF, 127, 124), (0x000, 0, 0), (0x5AA, 45, 40), (0xA55, 82, 84)] := by decide

/-- The payloads of the envelope frequency. -/
def envelopePayloads (lo hi : Byte) : Nat × Nat × Nat :=
  ((encEnvHi (envValue lo hi)).toNat, (encEnvMid 7 (envValue lo hi)).toNat, (encEnvLo 2 (envValue lo hi)).toNat)

/-- V13 to V29. -/
theorem test_vectors_envelope :
    ([(0x00, 0x00), (0x03, 0x00), (0x04, 0x00), (0x08, 0x00), (0x0C, 0x00), (0x70, 0x00), (0x7F, 0x00), (0x80, 0x00),
      (0xFF, 0x00), (0x00, 0x01), (0x00, 0x02), (0x80, 0x3F), (0x00, 0x40), (0x00, 0x80), (0x34, 0x12), (0xFF, 0xFF),
      (0xCD, 0xAB)] : List (Byte × Byte)).map (fun p => envelopePayloads p.1 p.2) =
    [(0, 0, 0), (0, 0, 0), (0, 0, 32), (0, 0, 64), (0, 0, 96), (0, 0, 0), (0, 0, 96), (0, 1, 0), (0, 1, 96), (0, 2, 0),
     (1, 4, 0), (31, 127, 0), (32, 0, 0), (64, 0, 0), (9, 36, 32), (127, 127, 96), (85, 87, 96)] := by decide

/-- V30 to V39. -/
theorem test_vectors_one_slot :
    ([0x00, 0x01, 0x05, 0x0F, 0x10, 0x1F, 0x20, 0x3F, 0x40, 0xFF] : List Byte).map (fun v =>
      ((encNoise (noiseValue v)).toNat, (encMixer (mixerValue v)).toNat, (encLevel (levelValue v)).toNat,
        (encShape (shapeValue v)).toNat)) =
    [(0, 0, 0, 0), (4, 2, 4, 8), (20, 10, 20, 40), (60, 30, 60, 120), (64, 32, 64, 0), (124, 62, 124, 120), (0, 64, 0, 0),
     (124, 126, 124, 120), (0, 0, 0, 0), (124, 126, 124, 120)] := by decide

/-- What a FLUSH puts on the wire. -/
def flushWire (c x : List (Fin 16 × Byte)) : List Message := wire Config.default (flushMessages Config.default (bank x) (bank c))

/-- V60 to V63. -/
theorem test_vectors_flush_frequency :
    flushWire [] [] = [⟨80, 64⟩, ⟨80, 0⟩] ∧
    flushWire [] [(0, 0x34), (1, 0x02)] = [⟨80, 64⟩, ⟨20, 17⟩, ⟨52, 80⟩, ⟨80, 0⟩] ∧
    flushWire [(0, 0x34), (1, 0x02)] [(0, 0x35), (1, 0x02)] = [⟨80, 64⟩, ⟨20, 17⟩, ⟨52, 84⟩, ⟨80, 0⟩] ∧
    flushWire [(1, 0x02)] [(1, 0xF2)] = [⟨80, 64⟩, ⟨20, 16⟩, ⟨52, 0⟩, ⟨80, 0⟩] := by decide

/-- V64 to V67. -/
theorem test_vectors_flush_others :
    flushWire [(6, 0x05)] [(6, 0x25)] = [⟨80, 64⟩, ⟨23, 20⟩, ⟨80, 0⟩] ∧
    flushWire [] [(5, 0x08), (6, 0x01)] = [⟨80, 64⟩, ⟨22, 64⟩, ⟨54, 0⟩, ⟨23, 4⟩, ⟨80, 0⟩] ∧
    flushWire [(8, 0x0F)] [(8, 0x0F), (9, 0x0F)] = [⟨80, 64⟩, ⟨26, 60⟩, ⟨80, 0⟩] ∧
    flushWire [] [(11, 0x34), (12, 0x12), (13, 0x0A)] =
      [⟨80, 64⟩, ⟨28, 9⟩, ⟨29, 36⟩, ⟨30, 32⟩, ⟨31, 80⟩, ⟨80, 0⟩] := by decide

/-- V68 and P2: every field in one batch. -/
theorem test_vectors_flush_all :
    flushWire [] [(0, 0xFF), (1, 0x0F), (2, 0x01), (4, 0x20), (5, 0x08), (6, 0x1F), (7, 0x3F), (8, 0x0F), (9, 0x10),
        (10, 0x1F), (11, 0x34), (12, 0x12), (13, 0x0A)] =
      [⟨80, 64⟩, ⟨20, 127⟩, ⟨52, 124⟩, ⟨21, 0⟩, ⟨53, 4⟩, ⟨22, 65⟩, ⟨54, 0⟩, ⟨23, 124⟩, ⟨24, 126⟩, ⟨25, 60⟩, ⟨26, 64⟩,
       ⟨27, 124⟩, ⟨28, 9⟩, ⟨29, 36⟩, ⟨30, 32⟩, ⟨31, 80⟩, ⟨80, 0⟩] := by decide

/-- `anchor = 1 000 000` as in the vectors of GATE. -/
def sGate (t : Nat) : State := { sRun with anchor := 1000000, now := t }

/-- V50 to V55: which clocks wait, and the exact deadline of the greatest clock. -/
theorem test_vectors_gate :
    tooEarly 0 (sGate 1000000) = false ∧ tooEarly 1 (sGate 1000000) = true ∧ tooEarly 1 (sGate 1000125) = false ∧
    tooEarly 8000 (sGate 1500000) = true ∧ tooEarly 8000 (sGate 2000001) = false ∧ tooEarly 8001 (sGate 9000000) = false ∧
    deadline 18446744073709551615 (sGate 0) = 1000000 + 2305843009213693951875 := by decide

/-- V56: the interrupt at 1 600 000 ends the wait for 2 000 000; the event is discarded. -/
theorem test_vector_gate_interrupted :
    nextWith (step { sGate 1500000 with stage := .gate (.wr0 8000 1), arrivals := [{ elapsed := 100000, irq := true }] })
      (fun t => t.exitCause == .interrupt && t.diag == [.interrupt] && t.phase == .endReset && t.stage == .fetch &&
        t.x == Bank.zero && t.now == 1600000) = true := by decide

/-- V69: SendFailure inside a FLUSH, no partial commit. -/
theorem test_vector_send_failure :
    nextWith (exec (.msgAFreqLo 80) { sFlush with answers := [false] }) (fun t =>
      t.diag == [.sendFailure ⟨52, 80⟩] && t.out == [] && t.c == Bank.zero && t.exitCause.code == 3 &&
        wire t.config t.outbox == wire t.config resetMessages) = true := by decide

/-- V83: the fifth Send of the teardown RESET fails. -/
theorem test_vector_teardown_failure :
    nextWith (exec (.msgBFreqLo 0) { sTeardown with answers := [false] }) (fun t =>
      t.diag == [.sendFailure ⟨53, 0⟩] && t.exitCause.code == 3 && t.outbox == [] && t.phase == .endReset) = true := by decide

/-- V84: the first Send of the start RESET fails. -/
theorem test_vector_start_failure :
    nextWith (step { State.reset with answers := [false] }) (fun t =>
      t.diag == [.sendFailure ⟨80, 127⟩] && t.out == [] && t.phase == .endReset && t.outbox == resetMessages) = true := by decide

/-- P6: nine bytes are a truncated stream. -/
theorem test_vector_truncated :
    nextWith (step { sRun with trace := { cells := [], len := 9 } }) (fun t =>
      t.diag == [.streamTruncated 0 9] && t.truncated && t.exitCause.code == 2 && t.pc == 0 && t.phase == .endReset) = true := by
  decide

/-- P5: the empty trace starts the final FLUSH. -/
theorem test_vector_empty_trace :
    nextWith (step sRun) (fun t => t.phase == .finalFlush && t.outbox == [.msgLatchEnable, .msgLatchDisable]) = true := by decide

/-- RESET17, the messages of RESET (R170). -/
theorem test_reset_messages :
    wire Config.default resetMessages =
      [⟨80, 127⟩, ⟨20, 0⟩, ⟨52, 0⟩, ⟨21, 0⟩, ⟨53, 0⟩, ⟨22, 0⟩, ⟨54, 0⟩, ⟨23, 0⟩, ⟨24, 0⟩, ⟨25, 0⟩, ⟨26, 0⟩, ⟨27, 0⟩,
       ⟨28, 0⟩, ⟨29, 0⟩, ⟨30, 0⟩, ⟨31, 0⟩, ⟨80, 0⟩] := by decide

/-- A Send while the sink is not held is the model's one fault (R30; log 13). -/
theorem test_send_without_sink : exec .msgLatchInit sDone = .fault .sinkNotHeld := by rfl

/-! ### A concrete case for the hypotheses of each statement -/

/-- Records with register byte `r`. -/
def recordWith (r : Byte) : Rec := recordOfBytes [0, 0, 0, 0, 0, 0, 0, 1, r, 2]

theorem witness_DecodeOfEncodeGivesEveryRowBack :
    (Instr.wr13 18446744073709551615 255).wf = true ∧ (Instr.invalid0E 1 15 2).wf = true ∧
    (Instr.invalid80 1 255 2).wf = true ∧ (Instr.msgMixer 126).wf = true ∧ Instr.msgLatchInit.wf = true := by decide

theorem witness_AnyTenBytesAreOneRecord : ([0, 0, 0, 0, 0, 0, 0, 5, 0xC8, 1] : List Byte).length = 10 := by decide

/-- Each register byte 0 to 13, and 14, where the last clause turns. -/
theorem witness_RegisterByteSelectsTheSlotWrite :
    (∀ r : Fin 15, recordRegister (recordWith (BitVec.ofFin (r.castLE (by decide)))) = BitVec.ofFin (r.castLE (by decide))) ∧
    (decodeRecord (recordWith 13)).writeClock?.isSome = true ∧ (decodeRecord (recordWith 14)).writeClock?.isSome = false := by
  decide

/-- Both ends of each range. -/
theorem witness_OtherRegistersDecodeAsInvalid :
    (recordRegister (recordWith 14)).toNat = 14 ∧ (recordRegister (recordWith 15)).toNat = 15 ∧
    (recordRegister (recordWith 16)).toNat = 16 ∧ (recordRegister (recordWith 31)).toNat = 31 ∧
    (recordRegister (recordWith 32)).toNat = 32 ∧ (recordRegister (recordWith 63)).toNat = 63 ∧
    (recordRegister (recordWith 64)).toNat = 64 ∧ (recordRegister (recordWith 127)).toNat = 127 ∧
    (recordRegister (recordWith 128)).toNat = 128 ∧ (recordRegister (recordWith 255)).toNat = 255 := by decide

theorem witness_MessageRowsSendTheirTableWord :
    (Instr.msgNoise 124).isMessage = true ∧ ({ sFlush with answers := [true] } : State).config = Config.default ∧
    ({ sFlush with answers := [true] } : State).sinkOpen = true ∧
    ({ sFlush with answers := [true] } : State).answers = true :: [] := by decide

theorem witness_FrequencyIsRecoverableFromItsPayloads :
    4095 < 4096 ∧ encFreqHi 4095 = encFreqHi 4095 ∧ encFreqLo 4095 = encFreqLo 4095 ∧ encFreqHi 4095 ≠ encFreqHi 4063 := by decide

/-- Both sides of the equivalence happen, at both ends of the range. -/
theorem witness_EnvelopeBitsThatNeverArrive :
    65535 < 65536 ∧ 65420 < 65536 ∧ (65535 / 128 = 65420 / 128 ∧ 65535 / 4 % 4 = 65420 / 4 % 4) ∧ ¬ 0 / 4 % 4 = 4 / 4 % 4 := by
  decide

theorem witness_FlushQueuesOnlyTableRows :
    .msgNoise 20 ∈ flushMessages Config.default sEvent.x sEvent.c := by decide

/-- A changed field at the highest value. -/
theorem witness_EnvelopeMessagesFollowTheirSlots :
    Config.default.envMidShift = 7 ∧ Config.default.envLowShift = 2 ∧
    wire Config.default (rowsTo [28, 29, 30] (flushMessages Config.default (bank [(11, 0xFF), (12, 0xFF)]) Bank.zero)) =
      [⟨28, 127⟩, ⟨29, 127⟩, ⟨30, 96⟩] := by decide

/-- Two banks that differ in masked bits only, and both from the committed bank. -/
theorem witness_MaskedBitsNeverReachAPayload :
    UsedBitsAgree (bank [(6, 0x05)]) (bank [(6, 0x25)]) ∧
    (∀ i : Fin 16, i.val < 14 → ((bank [(6, 0x05)])[i] = Bank.zero[i] ↔ (bank [(6, 0x25)])[i] = Bank.zero[i])) ∧
    bank [(6, 0x05)] ≠ bank [(6, 0x25)] := by
  unfold UsedBitsAgree
  decide

/-- The three ways to complete, the second and third exactly at the deadline. -/
theorem witness_SlotWritesComplete :
    inEventFlush sFlush = true ∧
    (inEventFlush (sGate 1000125) = false ∧ due 1 (sGate 1000125) ≤ (sGate 1000125).now ∧ (sGate 1000125).prevValid = false) ∧
    (inEventFlush { sEvent with now := 625 } = false ∧ due 5 { sEvent with now := 625 } ≤ 625 ∧ sEvent.prevClock = 5) := by decide

theorem witness_BoundaryQueuesTheFlushFirst :
    inEventFlush sEvent = false ∧ due 16 sEvent ≤ sEvent.now ∧ sEvent.prevValid = true ∧ sEvent.prevClock ≠ 16 := by decide

/-- One nanosecond before the deadline. -/
theorem witness_EarlyRecordsWaitInTheGate :
    inEventFlush (sGate 1000124) = false ∧ (sGate 1000124).now < due 1 (sGate 1000124) ∧ (sGate 1000124).irqPending = false ∧
    (sGate 1000124).config.gateInvalid = true := by decide

theorem witness_InterruptEndsTheWait :
    inEventFlush { sGate 1000124 with irqPending := true } = false ∧
    (sGate 1000124).now < due 1 (sGate 1000124) ∧ ({ sGate 1000124 with irqPending := true } : State).irqPending = true ∧
    (sGate 1000124).teardownDone = false ∧ (sGate 1000124).config.finalFlush ≠ .always ∧
    (sGate 1000124).config.gateInvalid = true := by decide

/-- At the deadline, and before it with GATE_INVALID off. -/
theorem witness_InvalidEventsAreDropped :
    ((sGate 1000125).config.gateInvalid = true → due 1 (sGate 1000125) ≤ (sGate 1000125).now) ∧
    ({ sRun with config := { Config.default with gateInvalid := false } } : State).config.gateInvalid = false := by decide

theorem witness_FieldMessagesAreSent :
    ({ sFlush with answers := [true, false] } : State).sinkOpen = true ∧
    ({ sFlush with answers := [true, false] } : State).answers = true :: [false] := by decide

theorem witness_LatchMessagesAreSent :
    ({ sTeardown with answers := [true] } : State).sinkOpen = true ∧
    ({ sTeardown with answers := [true] } : State).answers = true :: [] ∧ sTeardown.phase = .endReset ∧
    State.reset.sinkOpen = true ∧ State.reset.phase = .startReset := by decide

/-- Both kinds of FLUSH. -/
theorem witness_EndUpdateOfAFlushCommits :
    ({ sFlush with answers := [true] } : State).sinkOpen = true ∧ ({ sFlush with answers := [true] } : State).answers = [true] ∧
    sFlush.phase = .run ∧ inEventFlush sFlush = true ∧
    ({ sRun with phase := .finalFlush, answers := [true] } : State).sinkOpen = true ∧
    ({ sRun with phase := .finalFlush, answers := [true] } : State).phase = .finalFlush := by decide

theorem witness_FailedSendEntersTeardown :
    Instr.msgLatchEnable.isMessage = true ∧ onWire Config.default .msgLatchEnable = some ⟨80, 64⟩ ∧
    ({ sFlush with answers := [false] } : State).sinkOpen = true ∧ ({ sFlush with answers := [false] } : State).answers = [false] ∧
    sFlush.phase ≠ .endReset ∧ sFlush.teardownDone = false := by decide

theorem witness_FailedSendInTeardownEndsTheReset :
    (Instr.msgBFreqLo 0).isMessage = true ∧ onWire Config.default (.msgBFreqLo 0) = some ⟨53, 0⟩ ∧
    ({ sTeardown with answers := [false] } : State).sinkOpen = true ∧
    ({ sTeardown with answers := [false] } : State).answers = [false] ∧ sTeardown.phase = .endReset := by decide

theorem witness_OnlyASendWithoutSinkStops :
    Instr.msgLatchInit.isMessage = true ∧ sDone.sinkOpen = false ∧ (Instr.wr0 0 0).isMessage = false := by decide

/-- An event that completes, with no interrupt pending; and one that an interrupt ends. -/
theorem witness_SlotWritesLeaveTheRestAlone :
    nextWith (exec (.wr13 5 7) sEvent) (fun _ => true) = true ∧ sEvent.irqPending = false ∧
    nextWith (exec (.wr13 50 7) { sEvent with irqPending := true }) (fun t => t.phase == .endReset) = true := by decide

theorem witness_InvalidEventsLeaveTheRestAlone :
    nextWith (exec (.invalid0E 5 15 7) sEvent) (fun _ => true) = true ∧ sEvent.irqPending = false := by decide

/-- The three clauses: any Send, one that is accepted, one that is no end-update. -/
theorem witness_MessagesLeaveTheRestAlone :
    (Instr.msgNoise 20).isMessage = true ∧ nextWith (exec (.msgNoise 20) sFlush) (fun _ => true) = true ∧
    sinkAccepts sFlush = true ∧ Instr.msgNoise 20 ≠ .msgLatchDisable ∧ flushing sTeardown = false := by decide

/-- The record `WR13 2^64-1, 0x0A` at bytes 10 to 19, to be fetched next. -/
def sFetch : State := { sEvent with trace := sEvent.trace.writeBytes 10 [255, 255, 255, 255, 255, 255, 255, 255, 13, 10] }

theorem witness_StepRunsTheFetchedRecord :
    sFetch.phase = .run ∧ sFetch.outbox = [] ∧ sFetch.stage = .fetch ∧ (sampleInputs sFetch).irqPending = false ∧
    (∀ k < 10, sFetch.trace.read (10 * sFetch.pc + k) =
      ([255, 255, 255, 255, 255, 255, 255, 255, 13, 10] : List Byte)[k]?) ∧
    decode [255, 255, 255, 255, 255, 255, 255, 255, 13, 10] = .ok (.wr13 18446744073709551615 10) := by decide

theorem witness_StepRunsTheNextMessage :
    State.reset.phase ≠ .off ∧ State.reset.phase ≠ .done ∧ State.reset.outbox = .msgLatchInit :: resetMessages.tail := by decide

/-- A record in GATE, and one after its FLUSH. -/
theorem witness_StepResumesTheRecordInProgress :
    ({ sEvent with stage := .gate (.wr0 50 1) } : State).phase = .run ∧
    ({ sEvent with stage := .gate (.wr0 50 1) } : State).outbox = [] ∧
    ({ sEvent with stage := .flush (.wr0 8 1) } : State).phase = .run ∧
    ({ sEvent with stage := .flush (.wr0 8 1) } : State).outbox = [] := by decide

theorem witness_InterruptIsTakenBeforeFetch :
    sFetch.phase = .run ∧ sFetch.outbox = [] ∧ sFetch.stage = .fetch ∧
    (sampleInputs { sFetch with arrivals := [{ elapsed := 0, irq := true }] }).irqPending = true ∧
    sFetch.teardownDone = false ∧ sFetch.config.finalFlush ≠ .always := by decide

/-- Exactly at the end of the trace. -/
theorem witness_EndOfTraceStartsTheFinalFlush :
    sEvent.phase = .run ∧ sEvent.outbox = [] ∧ sEvent.stage = .fetch ∧ (sampleInputs sEvent).irqPending = false ∧
    sEvent.trace.len = 10 * sEvent.pc ∧ sEvent.config.finalFlush ≠ .never := by decide

/-- One byte, and nine bytes, of a record. -/
theorem witness_TruncatedTraceEntersTeardown :
    sRun.phase = .run ∧ sRun.outbox = [] ∧ sRun.stage = .fetch ∧ (sampleInputs sRun).irqPending = false ∧
    sRun.teardownDone = false ∧ sRun.config.finalFlush = .normalOnly ∧
    (10 * sRun.pc < 1 ∧ 1 < 10 * sRun.pc + 10) ∧ (10 * sRun.pc < 9 ∧ 9 < 10 * sRun.pc + 10) := by decide

theorem witness_PhasesFollowOneAnother :
    ({ State.reset with outbox := [] } : State).phase = .startReset ∧
    ({ sRun with phase := .finalFlush } : State).outbox = [] ∧ ({ sRun with phase := .finalFlush } : State).teardownDone = false ∧
    ({ sTeardown with outbox := [] } : State).phase = .endReset := by decide

theorem witness_DoneIsFinal : sDone.phase = .done := by decide

theorem witness_SessionStartCreatesTheResetState :
    ({ sDone with phase := .off } : State).phase = .off ∧ sDone.config.prevClockInit = .noEvent := by decide

/-- The invariant holds in the FLUSH of step 5, with a record held back and messages queued. -/
theorem witness_inv_flush : Inv sFlush where
  guard := by decide
  sink := by decide
  reserved := by decide
  zeroed := by decide
  queued := by decide
  inRun := by decide
  sending := by decide
  quiet := by decide
  waiting := by intro i h; cases h
  heldBack := by intro i h; cases h; exact ⟨8, rfl, by decide⟩
  timely := by decide
  noEventYet := by decide
  anchored := by decide
  traceForm := by decide
  configForm := by decide
  warnings := by decide
  running := by decide
  withinTrace := by decide

/-- The invariant holds in a teardown RESET. -/
theorem witness_inv_teardown : Inv sTeardown where
  guard := by decide
  sink := by decide
  reserved := by decide
  zeroed := by decide
  queued := by decide
  inRun := by decide
  sending := by decide
  quiet := by decide
  waiting := by intro i h; cases h
  heldBack := by intro i h; cases h
  timely := by decide
  noEventYet := by decide
  anchored := by decide
  traceForm := by decide
  configForm := by decide
  warnings := by decide
  running := by decide
  withinTrace := by decide

theorem witness_EveryStepKeepsTheSessionInvariant : Inv sFlush ∧ nextWith (step sFlush) (fun _ => true) = true :=
  ⟨witness_inv_flush, by decide⟩

theorem witness_NoStepOfASessionStops : Inv sFlush ∧ Inv sTeardown := ⟨witness_inv_flush, witness_inv_teardown⟩

/-- A step that keeps the committed bank, one that zeroes it, one that commits. -/
theorem witness_CommittedBankChangesOnlyAsAWhole :
    nextWith (step sFlush) (fun t => t.c == sFlush.c) = true ∧
    nextWith (step { sRun with phase := .finalFlush, c := sEvent.x }) (fun t => t.c == Bank.zero) = true ∧
    nextWith (step { sFlush with outbox := [.msgLatchDisable] }) (fun t => t.c == sFlush.x) = true := by decide

/-- A step that keeps the pending bank, one that zeroes it, one that writes a slot. -/
theorem witness_PendingBankChangesOneWritableSlot :
    nextWith (step sFlush) (fun t => t.x == sFlush.x) = true ∧
    nextWith (step { sEvent with phase := .finalFlush }) (fun t => t.x == Bank.zero) = true ∧
    nextWith (step { sFlush with outbox := [] }) (fun t => t.x == sFlush.x.set 7 1) = true := by decide

theorem witness_StepsNeverWriteTraceOrConfiguration :
    nextWith (step sFetch) (fun t => decide (t.now = sFetch.now + 125)) = true := by decide

/-- A step that sends, one that reports, and neither before a session. -/
theorem witness_OutputOnlyGrows :
    sFlush.phase ≠ .off ∧ nextWith (step sFlush) (fun t => t.out == [⟨80, 64⟩]) = true ∧
    nextWith (step { sRun with irqPending := true }) (fun t => t.diag == [.interrupt]) = true := by decide

/-- A step past a record, and the step that captures the anchor. -/
theorem witness_RecordIndexAndAnchorMoveOnlyAsStated :
    sFetch.phase ≠ .off ∧ nextWith (step sFetch) (fun t => t.pc == 2) = true ∧
    nextWith (step { State.reset with outbox := [], now := 7 }) (fun t => t.anchor == 132 && t.phase == .run) = true := by decide

theorem witness_TeardownRunsOnce :
    Inv sTeardown ∧ sTeardown.teardownDone = true ∧ nextWith (step sTeardown) (fun t => t.outbox == resetMessages.tail) = true :=
  ⟨witness_inv_teardown, by decide, by decide⟩

/-- The FLUSH of step 5 and the final one, with as many answers as messages. -/
theorem witness_FlushRunsToItsCommit :
    flushing sFlush = true ∧ sFlush.sinkOpen = true ∧ sFlush.outbox = flushMessages sFlush.config sFlush.x sFlush.c ∧
    (∀ b ∈ ({ sFlush with answers := [true, true, true] } : State).answers.take sFlush.outbox.length, b = true) ∧
    flushing { sFlush with phase := .finalFlush, stage := .fetch } = true := by decide

/-- The first Send fails, and the last. -/
theorem witness_FailedSendAbandonsTheFlush :
    flushing sFlush = true ∧ sFlush.sinkOpen = true ∧ sFlush.teardownDone = false ∧
    sFlush.outbox = flushMessages sFlush.config sFlush.x sFlush.c ∧ 0 < sFlush.outbox.length ∧ 2 < sFlush.outbox.length ∧
    ([false] : List Bool) = List.replicate 0 true ++ false :: [] ∧
    ([true, true, false, true] : List Bool) = List.replicate 2 true ++ false :: [true] := by decide

theorem witness_EventAtABoundaryFlushesThenWrites :
    ({ sEvent with stage := .gate (.wr7 16 1) } : State).phase = .run ∧ sEvent.outbox = [] ∧ sEvent.sinkOpen = true ∧
    sEvent.prevValid = true ∧ sEvent.prevClock ≠ 16 ∧ due 16 sEvent = sEvent.now ∧
    (∀ b ∈ sEvent.answers.take (flushMessages sEvent.config sEvent.x sEvent.c).length, b = true) := by decide

/-- The start RESET and the teardown RESET. -/
theorem witness_ResetSendsItsSeventeenMessages :
    State.reset.sinkOpen = true ∧ State.reset.outbox = resetMessages ∧ (∀ b ∈ State.reset.answers.take 17, b = true) ∧
    State.reset.config = Config.default ∧ State.reset.phase = .startReset ∧ sTeardown.sinkOpen = true ∧
    sTeardown.outbox = resetMessages ∧ sTeardown.phase = .endReset := by decide

theorem witness_TeardownAlwaysReachesDone : Inv sTeardown ∧ sTeardown.phase = .endReset := ⟨witness_inv_teardown, by decide⟩

/-- Exactly enough bytes, one too few, and none asked for. -/
theorem witness_MemReadAnswersBytesOrShort :
    0 + 10 ≤ sEvent.trace.len ∧ sEvent.trace.len < 1 + 10 ∧ memRead sEvent.trace 1 10 = .short 9 ∧
    memRead sEvent.trace 10 0 = .bytes [] := by decide

end Sys2Proof.Tests
end

/-! SUPPORT. What one row and one action of the sequencer can do, and the obligations on the step's observation, the next
message and the trace space (spec 00_scope.md R12, R14, R15). -/

namespace Sys2Proof.Machine

open Sys2Proof

/-! ### The trace -/

/-- A byte below the end of the trace is there to be read (R12). -/
theorem Memory.read_of_lt {m : Memory} {a : Nat} (h : a < m.len) : m.read a = some (cellAt m.cells a) := if_pos h

/-! ### The sequencer -/

/-- Within a session the inputs act, then the sequencer sends or goes on (log 14). -/
theorem nextAction_session {s : State} (hoff : s.phase ≠ .off) (hdone : s.phase ≠ .done) :
    nextAction s = sendOrAdvance (sampleInputs s) := by
  unfold nextAction
  split
  · contradiction
  · contradiction
  all_goals rfl

/-- A queued message comes before whatever the phase asks for (R14). -/
theorem sendOrAdvance_queued {s : State} {i : Instr} {rest : List Instr} (h : s.outbox = i :: rest) :
    sendOrAdvance s = .run i (withOutbox rest s) := by
  simp [sendOrAdvance, h]

/-- A step that runs a row is `exec` of that row. -/
theorem step_of_run {s u : State} {i : Instr} (h : nextAction s = .run i u) : step s = exec i u := by
  simp [step, h]

/-- The rows a step can run, and the state each runs in: the head of the queue, the record in progress, or the record
FETCH has just read. -/
theorem nextAction_run_cases {s u : State} {i : Instr} (h : nextAction s = .run i u) :
    (∃ rest, s.outbox = i :: rest ∧ u = withOutbox rest (sampleInputs s)) ∨
    (s.outbox = [] ∧ s.phase = .run ∧ (s.stage = .gate i ∨ s.stage = .flush i) ∧ u = sampleInputs s) ∨
    (s.outbox = [] ∧ s.phase = .run ∧ s.stage = .fetch ∧ (sampleInputs s).irqPending = false ∧
      10 * s.pc + 10 ≤ s.trace.len ∧ i.isMessage = false ∧ u = pastRecord (sampleInputs s)) := by
  obtain ⟨-, -, hrun⟩ := nextAction_run h
  obtain hqueued | ⟨hout, hphase, hloop⟩ := sendOrAdvance_run hrun
  · exact .inl hqueued
  obtain ⟨hstage, hu⟩ | ⟨hstage, hirq, hfetch⟩ := eventLoop_run hloop
  · exact .inr (.inl ⟨hout, hphase, hstage, hu⟩)
  · obtain ⟨hlen, hu, hi⟩ := fetch_run hfetch
    exact .inr (.inr ⟨hout, hphase, hstage, hirq, hlen, hi ▸ decodeRecord_isMessage _, hu⟩)

/-! ### One row -/

/-- Everything a row can do with a next state: apply its write, wait, start its FLUSH, be dropped, or send. -/
theorem exec_next_cases {i : Instr} {s t : State} (h : exec i s = .next t) :
    (∃ (slot : Fin 16) (k : Tick) (v : Byte), slot.val < 14 ∧ i.writeClock? = some k ∧
      (inEventFlush s = true ∨ (tooEarly k s = false ∧ boundary k s = false)) ∧ t = applyWrite slot k v s) ∨
    (i.isMessage = false ∧ t = waitInGate i s) ∨
    (∃ k, i.writeClock? = some k ∧ inEventFlush s = false ∧ tooEarly k s = false ∧ boundary k s = true ∧
      t = startEventFlush i s) ∨
    (i.writeClock? = none ∧ i.isMessage = false ∧ ∃ r, t = raise (.invalidRegisterIndex (s.pc - 1) r) s) ∨
    (i.isMessage = true ∧ s.sinkOpen = true ∧ ∃ m, onWire s.config i = some m ∧
      ((sinkAccepts s = true ∧ t = afterSend i (accept m s)) ∨
       (sinkAccepts s = false ∧ t = raise (.sendFailure m) (turnAway s)))) := by
  obtain ⟨slot, k, v, hslot, hclock, hrec, hexec⟩ | ⟨hclock, hrec, k, r, hexec⟩ | ⟨hmsg, -, hexec⟩ := exec_kinds i
  case inl =>
    rw [hexec] at h
    obtain ⟨hf, hw⟩ | ⟨hf, he, hw⟩ | ⟨hf, he, hb, hw⟩ | ⟨hf, he, hb, hw⟩ := writeEvent_cases i slot k v s <;>
      rw [hw] at h <;> injection h with h <;> subst h
    · exact .inl ⟨slot, k, v, hslot, hclock, .inl hf, rfl⟩
    · exact .inr (.inl ⟨hrec, rfl⟩)
    · exact .inr (.inr (.inl ⟨k, hclock, hf, he, hb, rfl⟩))
    · exact .inl ⟨slot, k, v, hslot, hclock, .inr ⟨he, hb⟩, rfl⟩
  case inr.inl =>
    rw [hexec] at h
    obtain ⟨-, -, hd⟩ | ⟨-, hd⟩ := dropEvent_cases i k r s <;> rw [hd] at h <;> injection h with h <;> subst h
    · exact .inr (.inl ⟨hrec, rfl⟩)
    · exact .inr (.inr (.inr (.inl ⟨hclock, hrec, r, rfl⟩)))
  case inr.inr =>
    obtain ⟨m, hwire, hsend⟩ := hexec s
    obtain ⟨hopen, hanswer⟩ := sendThen_next (hsend ▸ h)
    exact .inr (.inr (.inr (.inr ⟨hmsg, hopen, m, hwire, hanswer⟩)))

/-! ### The observation: what is appended to `out` and `diag` -/

@[simp] theorem afterSend_out (i : Instr) (s : State) : (afterSend i s).out = s.out := by
  unfold afterSend; split <;> simp

@[simp] theorem afterSend_diag (i : Instr) (s : State) : (afterSend i s).diag = s.diag := by
  unfold afterSend; split <;> simp

@[simp] theorem completeStream_out (s : State) : (completeStream s).out = s.out := by
  unfold completeStream; split <;> simp

@[simp] theorem completeStream_diag (s : State) : (completeStream s).diag = s.diag := by
  unfold completeStream; split <;> simp

@[simp] theorem raise_out (e : Condition) (s : State) : (raise e s).out = s.out := by simp [raise_frame]

@[simp] theorem raise_diag (e : Condition) (s : State) : (raise e s).diag = s.diag ++ [e] := by simp [raise_frame]

/-- From `s` to `t` at most one message and one diagnostic entry are appended, and none is removed (R12). -/
def AppendsAtMostOne (s t : State) : Prop :=
  (t.out = s.out ∨ ∃ m : Message, t.out = s.out ++ [m]) ∧ (t.diag = s.diag ∨ ∃ e : Condition, t.diag = s.diag ++ [e])

theorem AppendsAtMostOne.of_eq {s t : State} (hout : t.out = s.out) (hdiag : t.diag = s.diag) : AppendsAtMostOne s t :=
  ⟨.inl hout, .inl hdiag⟩

theorem AppendsAtMostOne.of_raise (e : Condition) (s : State) : AppendsAtMostOne s (raise e s) :=
  ⟨.inl (raise_out e s), .inr ⟨e, raise_diag e s⟩⟩

/-- Only the observation of the state a step starts from matters. -/
theorem AppendsAtMostOne.congr_left {s u t : State} (hout : u.out = s.out) (hdiag : u.diag = s.diag)
    (h : AppendsAtMostOne u t) : AppendsAtMostOne s t := by
  unfold AppendsAtMostOne at h ⊢
  rwa [hout, hdiag] at h

/-- Waiting in GATE appends nothing, or the interrupt that ends the wait (R127). -/
theorem waitInGate_appends (i : Instr) (s : State) : AppendsAtMostOne s (waitInGate i s) := by
  unfold waitInGate
  split
  · exact .of_raise .interrupt s
  · exact .of_eq rfl rfl

/-- A row appends the one message it sends, or the one condition it raises. -/
theorem exec_appends {i : Instr} {s t : State} (h : exec i s = .next t) : AppendsAtMostOne s t := by
  obtain ⟨slot, k, v, -, -, -, rfl⟩ | ⟨-, rfl⟩ | ⟨k, -, -, -, -, rfl⟩ | ⟨-, -, r, rfl⟩ |
    ⟨-, -, m, -, ⟨-, rfl⟩ | ⟨-, rfl⟩⟩ := exec_next_cases h
  · exact .of_eq rfl rfl
  · exact waitInGate_appends i s
  · exact .of_eq rfl rfl
  · exact .of_raise _ s
  · exact ⟨.inr ⟨m, by simp⟩, .inl (by simp)⟩
  · exact (AppendsAtMostOne.of_raise _ (turnAway s)).congr_left rfl rfl

/-- The sequencer hands a row over with the observation as it was. -/
theorem nextAction_run_observation {s u : State} {i : Instr} (h : nextAction s = .run i u) :
    u.out = s.out ∧ u.diag = s.diag := by
  obtain ⟨rest, -, rfl⟩ | ⟨-, -, -, rfl⟩ | ⟨-, -, -, -, -, -, rfl⟩ := nextAction_run_cases h
  all_goals exact ⟨rfl, rfl⟩

/-- An action of the sequencer within a session sends nothing and raises at most one condition. -/
theorem advance_settle_appends {s t : State} (hoff : s.phase ≠ .off) (h : advance s = .settle t) :
    AppendsAtMostOne s t := by
  obtain ⟨hphase, -⟩ | ⟨-, rfl⟩ | ⟨-, -, -, rfl⟩ | ⟨-, -, -, -, rfl⟩ | ⟨-, -, -, -, -, rfl⟩ | ⟨-, rfl⟩ | ⟨-, rfl⟩ |
    ⟨-, rfl⟩ := advance_settle h
  · contradiction
  · exact .of_eq rfl rfl
  · exact .of_raise _ s
  · exact .of_eq (completeStream_out s) (completeStream_diag s)
  · exact .of_raise _ s
  · exact .of_eq (teardown_out s) (teardown_diag s)
  · exact .of_eq rfl rfl
  · exact .of_eq rfl rfl

/-- Within a session a step appends at most one message and one diagnostic entry. -/
theorem step_appends {s t : State} (hoff : s.phase ≠ .off) (h : step s = .next t) : AppendsAtMostOne s t := by
  obtain ⟨i, u, hrun, hexec⟩ | hsettle := step_next h
  · obtain ⟨hout, hdiag⟩ := nextAction_run_observation hrun
    exact (exec_appends hexec).congr_left hout hdiag
  · obtain ⟨hphase, -⟩ | ⟨-, rfl⟩ | ⟨-, -, -, hadvance⟩ := nextAction_settle hsettle
    · contradiction
    · exact .of_eq rfl rfl
    · exact (advance_settle_appends (s := sampleInputs s) hoff hadvance).congr_left rfl rfl

end Sys2Proof.Machine

namespace Sys2Proof.Proofs

open Sys2Proof Sys2Proof.Machine

/-- Settles O51, by what each row and each action of the sequencer appends. -/
theorem outputOnlyGrows : Obligations.OutputOnlyGrows :=
  fun _ _ hoff hstep => step_appends hoff hstep

/-- Settles O59, by the two answers of `MemRead`. -/
theorem memReadAnswersBytesOrShort : Obligations.MemReadAnswersBytesOrShort := by
  intro m addr n
  constructor
  · intro hwhole
    refine ⟨_, memRead_whole m addr n hwhole, by simp, fun k hk => ?_⟩
    have hread := Memory.read_of_lt (m := m) (a := addr + k) (by omega)
    simp [hread, hk]
  · intro hshort
    exact ⟨memRead_short m addr n hshort, fun hn => by omega⟩

/-- Settles O36: the head of the queue goes before whatever the phase asks for. -/
theorem stepRunsTheNextMessage : Obligations.StepRunsTheNextMessage := by
  intro s i rest hoff hdone hqueue
  have hrun : nextAction s = .run i (withOutbox rest (sampleInputs s)) := by
    rw [nextAction_session hoff hdone]
    exact sendOrAdvance_queued hqueue
  exact step_of_run hrun

end Sys2Proof.Proofs

/-! SUPPORT. What a step does to the banks, the record index and the anchor, that it keeps the session's invariant, and the
obligations on the state (spec 10_state.md). -/

namespace Sys2Proof.Machine

open Sys2Proof

/-! ### Where a row stops -/

/-- A row with the clock of a slot write is no message (R79, R86). -/
theorem isMessage_of_writeClock {i : Instr} {k : Tick} (h : i.writeClock? = some k) : i.isMessage = false := by
  obtain ⟨_, _, _, _, _, hrec, _⟩ | ⟨-, hrec, _⟩ | ⟨-, hclock, _⟩ := exec_kinds i
  · exact hrec
  · exact hrec
  · rw [hclock] at h; cases h

/-- A record always answers a next state (R80, R92). -/
theorem exec_record_next {i : Instr} (h : i.isMessage = false) (s : State) : ∃ t, exec i s = .next t := by
  obtain ⟨slot, k, v, -, -, -, hexec⟩ | ⟨-, -, k, r, hexec⟩ | ⟨hmsg, -, -⟩ := exec_kinds i
  · obtain ⟨-, hw⟩ | ⟨-, -, hw⟩ | ⟨-, -, -, hw⟩ | ⟨-, -, -, hw⟩ := writeEvent_cases i slot k v s <;>
      exact ⟨_, (hexec s).trans hw⟩
  · obtain ⟨-, -, hd⟩ | ⟨-, hd⟩ := dropEvent_cases i k r s <;> exact ⟨_, (hexec s).trans hd⟩
  · rw [h] at hmsg; cases hmsg

/-- A message answers a next state while the sink is held, accepted or not (R14). -/
theorem exec_message_next {i : Instr} {s : State} (h : i.isMessage = true) (hopen : s.sinkOpen = true) :
    ∃ t, exec i s = .next t := by
  obtain ⟨m, -, hsend⟩ := exec_message h s
  rw [hsend]
  cases hanswer : sinkAccepts s with
  | true => exact ⟨_, sendThen_ok hopen hanswer⟩
  | false => exact ⟨_, sendThen_fail hopen hanswer⟩

/-- A message faults while the sink is not held (R30; log 13). -/
theorem exec_message_closed {i : Instr} {s : State} (h : i.isMessage = true) (hclosed : s.sinkOpen = false) :
    exec i s = .fault .sinkNotHeld := by
  obtain ⟨m, -, hsend⟩ := exec_message h s
  rw [hsend, sendThen_closed hclosed]

/-! ### The sequencer's own moves -/

/-- The state a row runs in is the one before the step, but for the inputs, the record index and the messages left. -/
theorem nextAction_run_keeps {s u : State} {i : Instr} (h : nextAction s = .run i u) :
    u.x = s.x ∧ u.c = s.c ∧ u.phase = s.phase ∧ u.sinkOpen = s.sinkOpen ∧ u.anchor = s.anchor ∧ u.config = s.config ∧
      u.out = s.out := by
  obtain ⟨rest, -, rfl⟩ | ⟨-, -, -, rfl⟩ | ⟨-, -, -, -, -, -, rfl⟩ := nextAction_run_cases h
  all_goals exact ⟨rfl, rfl, rfl, rfl, rfl, rfl, rfl⟩

/-- A step in DONE changes nothing (R33; log 16). -/
theorem step_done {s : State} (h : s.phase = .done) : step s = .next s := by
  simp [step, nextAction, h]

/-- In DONE any number of steps gives the same state. -/
theorem run_done {s : State} (h : s.phase = .done) (n : Nat) : Sys2Proof.core.run n s = .next s := by
  induction n with
  | zero => rfl
  | succ n ih => simpa only [Host.Core.run, show Sys2Proof.core.step s = .next s from step_done h] using ih

/-! ### Conditions that end the session -/

/-- The state in which a condition ends the session: reported, its cause recorded, the operation in progress given up. -/
def givenUp (e : Condition) (s : State) : State := abandon { report e s with exitCause := e.cause }

@[simp] theorem givenUp_pc (e : Condition) (s : State) : (givenUp e s).pc = s.pc := rfl
@[simp] theorem givenUp_prevValid (e : Condition) (s : State) : (givenUp e s).prevValid = s.prevValid := rfl
@[simp] theorem givenUp_prevClock (e : Condition) (s : State) : (givenUp e s).prevClock = s.prevClock := rfl
@[simp] theorem givenUp_anchor (e : Condition) (s : State) : (givenUp e s).anchor = s.anchor := rfl
@[simp] theorem givenUp_warnCount (e : Condition) (s : State) : (givenUp e s).warnCount = s.warnCount := rfl
@[simp] theorem givenUp_truncated (e : Condition) (s : State) : (givenUp e s).truncated = s.truncated := rfl
@[simp] theorem givenUp_exitCause (e : Condition) (s : State) : (givenUp e s).exitCause = e.cause := rfl
@[simp] theorem givenUp_phase (e : Condition) (s : State) : (givenUp e s).phase = s.phase := rfl
@[simp] theorem givenUp_stage (e : Condition) (s : State) : (givenUp e s).stage = .fetch := rfl
@[simp] theorem givenUp_outbox (e : Condition) (s : State) : (givenUp e s).outbox = [] := rfl
@[simp] theorem givenUp_diag (e : Condition) (s : State) : (givenUp e s).diag = s.diag ++ [e] := rfl

theorem raise_streamTruncated (index count : Nat) (s : State) :
    raise (.streamTruncated index count) s =
      endWithoutFlush { givenUp (.streamTruncated index count) s with truncated := true } := rfl

theorem raise_interrupt (s : State) : raise .interrupt s = endWithoutFlush (givenUp .interrupt s) := rfl

/-- A Send that fails inside the teardown RESET ends that RESET only (R190). -/
theorem raise_sendFailure_inTeardown {m : Message} {s : State} (h : s.phase = .endReset) :
    raise (.sendFailure m) s = givenUp (.sendFailure m) s := if_pos h

/-- A Send that fails anywhere else enters TEARDOWN (R185). -/
theorem raise_sendFailure_teardown {m : Message} {s : State} (h : s.phase ≠ .endReset) :
    raise (.sendFailure m) s = teardown (givenUp (.sendFailure m) s) := if_neg h

/-! ### The banks -/

/-- Both banks stay as they are, or both are zeroed. -/
def BanksKeptOrZeroed (s t : State) : Prop := (t.x = s.x ∧ t.c = s.c) ∨ (t.x = Bank.zero ∧ t.c = Bank.zero)

theorem BanksKeptOrZeroed.kept {s t : State} (hx : t.x = s.x) (hc : t.c = s.c) : BanksKeptOrZeroed s t := .inl ⟨hx, hc⟩

theorem BanksKeptOrZeroed.zeroed {s t : State} (hx : t.x = Bank.zero) (hc : t.c = Bank.zero) : BanksKeptOrZeroed s t :=
  .inr ⟨hx, hc⟩

/-- TEARDOWN zeroes both banks, or finds its guard set (R188, R189). -/
theorem teardown_banks (s : State) : BanksKeptOrZeroed s (teardown s) := by
  cases h : s.teardownDone with
  | true => exact .kept (by simp [h]) (by simp [h])
  | false => exact .zeroed (by simp [h]) (by simp [h])

theorem endWithoutFlush_banks (s : State) : BanksKeptOrZeroed s (endWithoutFlush s) := by
  unfold endWithoutFlush
  split
  · exact .kept rfl rfl
  all_goals exact teardown_banks s

theorem completeStream_banks (s : State) : BanksKeptOrZeroed s (completeStream s) := by
  unfold completeStream
  split
  · exact teardown_banks s
  all_goals exact .kept rfl rfl

/-- A condition is absorbed, or ends the session (R183 to R186, R190). -/
theorem raise_banks (e : Condition) (s : State) : BanksKeptOrZeroed s (raise e s) := by
  cases e with
  | invalidRegisterIndex index register => exact .kept rfl rfl
  | streamTruncated index count =>
    exact endWithoutFlush_banks { givenUp (.streamTruncated index count) s with truncated := true }
  | interrupt => exact endWithoutFlush_banks (givenUp .interrupt s)
  | sendFailure m =>
    by_cases hphase : s.phase = .endReset
    · rw [raise_sendFailure_inTeardown hphase]
      exact .kept rfl rfl
    · rw [raise_sendFailure_teardown hphase]
      exact teardown_banks (givenUp (.sendFailure m) s)

theorem waitInGate_banks (i : Instr) (s : State) : BanksKeptOrZeroed s (waitInGate i s) := by
  unfold waitInGate
  split
  · exact raise_banks .interrupt s
  · exact .kept rfl rfl

/-- The committed bank takes the whole pending bank, with the end-update of a FLUSH just accepted (R25, R143). -/
def Commits (s t : State) : Prop :=
  t.c = s.x ∧ t.x = s.x ∧ (s.phase = .run ∨ s.phase = .finalFlush) ∧
    t.out = s.out ++ [⟨s.config.addr.latch, s.config.latchDisable⟩]

/-- Everything that can become of the two banks: kept or zeroed, one slot of the pending bank written, or committed. -/
def BanksMove (s t : State) : Prop :=
  BanksKeptOrZeroed s t ∨ (t.c = s.c ∧ ∃ (slot : Fin 16) (v : Byte), slot.val < 14 ∧ t.x = s.x.set slot v) ∨ Commits s t

/-- A FLUSH is in progress in RUN and FINAL_FLUSH only (R92, R112). -/
theorem phase_of_flushing {s : State} (h : flushing s = true) : s.phase = .run ∨ s.phase = .finalFlush := by
  cases hphase : s.phase <;> simp_all [flushing]

/-- An accepted message leaves the banks alone, but for the end-update of a FLUSH. -/
theorem afterSend_banks {i : Instr} {m : Message} {s : State} (hwire : onWire s.config i = some m) :
    BanksMove s (afterSend i (accept m s)) := by
  by_cases hi : i = .msgLatchDisable
  · subst hi
    obtain rfl := Option.some.inj hwire
    rw [afterSend_latchDisable]
    unfold commitFlush
    split
    · next hflush => exact .inr (.inr ⟨rfl, rfl, phase_of_flushing (s := s) hflush, rfl⟩)
    · exact .inl (.kept rfl rfl)
  · rw [afterSend_other hi]
    exact .inl (.kept rfl rfl)

theorem exec_banks {i : Instr} {s t : State} (h : exec i s = .next t) : BanksMove s t := by
  obtain ⟨slot, k, v, hslot, -, -, rfl⟩ | ⟨-, rfl⟩ | ⟨k, -, -, -, -, rfl⟩ | ⟨-, -, r, rfl⟩ |
    ⟨-, -, m, hwire, ⟨-, rfl⟩ | ⟨-, rfl⟩⟩ := exec_next_cases h
  · exact .inr (.inl ⟨rfl, slot, v, hslot, rfl⟩)
  · exact .inl (waitInGate_banks i s)
  · exact .inl (.kept rfl rfl)
  · exact .inl (raise_banks _ s)
  · exact afterSend_banks hwire
  · exact .inl (raise_banks _ (turnAway s))

theorem advance_settle_banks {s t : State} (h : advance s = .settle t) : BanksKeptOrZeroed s t := by
  obtain ⟨-, rfl⟩ | ⟨-, rfl⟩ | ⟨-, -, -, rfl⟩ | ⟨-, -, -, -, rfl⟩ | ⟨-, -, -, -, -, rfl⟩ | ⟨-, rfl⟩ | ⟨-, rfl⟩ |
    ⟨-, rfl⟩ := advance_settle h
  · exact .zeroed rfl rfl
  · exact .kept rfl rfl
  · exact raise_banks _ s
  · exact completeStream_banks s
  · exact raise_banks _ s
  · exact teardown_banks s
  · exact .kept rfl rfl
  · exact .kept rfl rfl

/-- What a step does to the banks. -/
theorem step_banks {s t : State} (h : step s = .next t) : BanksMove s t := by
  obtain ⟨i, u, hrun, hexec⟩ | hsettle := step_next h
  · obtain ⟨hx, hc, hphase, -, -, hconfig, hout⟩ := nextAction_run_keeps hrun
    have hmove := exec_banks hexec
    unfold BanksMove BanksKeptOrZeroed Commits at hmove ⊢
    rwa [hx, hc, hphase, hconfig, hout] at hmove
  · obtain ⟨-, rfl⟩ | ⟨-, rfl⟩ | ⟨-, -, -, hadvance⟩ := nextAction_settle hsettle
    · exact .inl (.zeroed rfl rfl)
    · exact .inl (.kept rfl rfl)
    · exact .inl (advance_settle_banks (s := sampleInputs s) hadvance)

/-! ### The record index and the anchor -/

@[simp] theorem raise_pc (e : Condition) (s : State) : (raise e s).pc = s.pc := by simp [raise_frame]

@[simp] theorem raise_anchor (e : Condition) (s : State) : (raise e s).anchor = s.anchor := by simp [raise_frame]

@[simp] theorem afterSend_pc (i : Instr) (s : State) : (afterSend i s).pc = s.pc := by
  unfold afterSend; split <;> simp

@[simp] theorem afterSend_anchor (i : Instr) (s : State) : (afterSend i s).anchor = s.anchor := by
  unfold afterSend; split <;> simp

@[simp] theorem completeStream_pc (s : State) : (completeStream s).pc = s.pc := by
  unfold completeStream; split <;> simp

@[simp] theorem completeStream_anchor (s : State) : (completeStream s).anchor = s.anchor := by
  unfold completeStream; split <;> simp

@[simp] theorem waitInGate_pc (i : Instr) (s : State) : (waitInGate i s).pc = s.pc := by
  unfold waitInGate; split <;> simp

@[simp] theorem waitInGate_anchor (i : Instr) (s : State) : (waitInGate i s).anchor = s.anchor := by
  unfold waitInGate; split <;> simp

/-- No row moves the record index or the anchor (R26, R28). -/
theorem exec_pc_anchor {i : Instr} {s t : State} (h : exec i s = .next t) : t.pc = s.pc ∧ t.anchor = s.anchor := by
  obtain ⟨slot, k, v, -, -, -, rfl⟩ | ⟨-, rfl⟩ | ⟨k, -, -, -, -, rfl⟩ | ⟨-, -, r, rfl⟩ |
    ⟨-, -, m, -, ⟨-, rfl⟩ | ⟨-, rfl⟩⟩ := exec_next_cases h
  all_goals simp

/-- Only FETCH moves the record index, by one past a whole record (R91). -/
theorem nextAction_run_pc {s u : State} {i : Instr} (h : nextAction s = .run i u) :
    u.pc = s.pc ∨ (s.phase = .run ∧ u.pc = s.pc + 1 ∧ 10 * s.pc + 10 ≤ s.trace.len) := by
  obtain ⟨rest, -, rfl⟩ | ⟨-, -, -, rfl⟩ | ⟨-, hphase, -, -, hlen, -, rfl⟩ := nextAction_run_cases h
  · exact .inl rfl
  · exact .inl rfl
  · exact .inr ⟨hphase, rfl, hlen⟩

/-- Between instructions the record index stays, and the anchor is captured only on entering RUN (R125, D11). -/
theorem advance_settle_pc_anchor {s t : State} (hoff : s.phase ≠ .off) (h : advance s = .settle t) :
    t.pc = s.pc ∧ (t.anchor = s.anchor ∨ (s.phase = .startReset ∧ t.phase = .run ∧ t.anchor = t.now)) := by
  obtain ⟨hphase, -⟩ | ⟨hphase, rfl⟩ | ⟨-, -, -, rfl⟩ | ⟨-, -, -, -, rfl⟩ | ⟨-, -, -, -, -, rfl⟩ | ⟨-, rfl⟩ | ⟨-, rfl⟩ |
    ⟨-, rfl⟩ := advance_settle h
  · contradiction
  · exact ⟨rfl, .inr ⟨hphase, rfl, rfl⟩⟩
  all_goals simp

/-! ### What is queued: messages of the table (R77) -/

/-- Every row of the list is a message with the payload bits its row fixes. -/
def Sendable (rows : List Instr) : Prop := ∀ i ∈ rows, i.isMessage = true ∧ i.wf = true

theorem Sendable.nil : Sendable [] := fun _ hi => absurd hi List.not_mem_nil

theorem Sendable.cons {i : Instr} {rows : List Instr} (hmsg : i.isMessage = true) (hwf : i.wf = true)
    (hrows : Sendable rows) : Sendable (i :: rows) := List.forall_mem_cons.mpr ⟨⟨hmsg, hwf⟩, hrows⟩

theorem Sendable.append {a b : List Instr} (ha : Sendable a) (hb : Sendable b) : Sendable (a ++ b) :=
  List.forall_mem_append.mpr ⟨ha, hb⟩

theorem Sendable.whenChanged (changed : Bool) {rows : List Instr} (h : Sendable rows) :
    Sendable (Machine.whenChanged changed rows) := by
  cases changed with
  | true => exact h
  | false => exact .nil

theorem sendable_resetMessages : Sendable resetMessages := by unfold Sendable; decide

/-- A payload without a bit under the mask has the fixed zeros of its row. -/
theorem matchesRow_payloadByte {n : Nat} {mask : Byte} (h : n &&& mask.toNat = 0) :
    matchesRow (payloadByte n) mask 0 = true := by
  have hzero : payloadByte n &&& mask = 0 := by
    apply BitVec.eq_of_toNat_eq
    have hmod : n % 2 ^ 8 &&& mask.toNat = (n &&& mask.toNat) % 2 ^ 8 := by
      rw [Nat.and_mod_two_pow, Nat.mod_eq_of_lt mask.isLt]
    simpa [payloadByte, h] using hmod
  simp [matchesRow, hzero]

theorem encFreqHi_row (f : Nat) : matchesRow (encFreqHi f) 0x80 0 = true :=
  matchesRow_payloadByte (by simp [Nat.and_assoc])

theorem encFreqLo_row (f : Nat) : matchesRow (encFreqLo f) 0x83 0 = true :=
  matchesRow_payloadByte (by simp [Nat.and_assoc])

theorem encEnvHi_row (e : Nat) : matchesRow (encEnvHi e) 0x80 0 = true :=
  matchesRow_payloadByte (by simp [Nat.and_assoc])

theorem encEnvMid_row (shift e : Nat) : matchesRow (encEnvMid shift e) 0x80 0 = true :=
  matchesRow_payloadByte (by simp [Nat.and_assoc])

theorem encEnvLo_row (shift e : Nat) : matchesRow (encEnvLo shift e) 0x9F 0 = true :=
  matchesRow_payloadByte (by simp [Nat.shiftLeft_and_distrib, Nat.and_assoc])

theorem encNoise_row (n : Nat) : matchesRow (encNoise n) 0x83 0 = true :=
  matchesRow_payloadByte (by simp [Nat.shiftLeft_and_distrib, Nat.and_assoc])

theorem encMixer_row (m : Nat) : matchesRow (encMixer m) 0x81 0 = true :=
  matchesRow_payloadByte (by simp [Nat.shiftLeft_and_distrib, Nat.and_assoc])

theorem encLevel_row (l : Nat) : matchesRow (encLevel l) 0x83 0 = true :=
  matchesRow_payloadByte (by simp [Nat.shiftLeft_and_distrib, Nat.and_assoc])

theorem encShape_row (v : Nat) : matchesRow (encShape v) 0x87 0 = true :=
  matchesRow_payloadByte (by simp [Nat.shiftLeft_and_distrib, Nat.and_assoc])

theorem sendable_emitFreqA (f : Nat) : Sendable (emitFreqA f) :=
  .cons rfl (encFreqHi_row f) (.cons rfl (encFreqLo_row f) .nil)

theorem sendable_emitFreqB (f : Nat) : Sendable (emitFreqB f) :=
  .cons rfl (encFreqHi_row f) (.cons rfl (encFreqLo_row f) .nil)

theorem sendable_emitFreqC (f : Nat) : Sendable (emitFreqC f) :=
  .cons rfl (encFreqHi_row f) (.cons rfl (encFreqLo_row f) .nil)

theorem sendable_emitNoise (n : Nat) : Sendable (emitNoise n) := .cons rfl (encNoise_row n) .nil

theorem sendable_emitMixer (m : Nat) : Sendable (emitMixer m) := .cons rfl (encMixer_row m) .nil

theorem sendable_emitLevelA (l : Nat) : Sendable (emitLevelA l) := .cons rfl (encLevel_row l) .nil

theorem sendable_emitLevelB (l : Nat) : Sendable (emitLevelB l) := .cons rfl (encLevel_row l) .nil

theorem sendable_emitLevelC (l : Nat) : Sendable (emitLevelC l) := .cons rfl (encLevel_row l) .nil

theorem sendable_emitEnvFreq (cfg : Config) (e : Nat) : Sendable (emitEnvFreq cfg e) :=
  .cons rfl (encEnvHi_row e) (.cons rfl (encEnvMid_row _ e) (.cons rfl (encEnvLo_row _ e) .nil))

theorem sendable_emitShape (v : Nat) : Sendable (emitShape v) := .cons rfl (encShape_row v) .nil

/-- A FLUSH queues only messages of the table, whatever the banks and the envelope shifts. -/
theorem sendable_flushMessages (cfg : Config) (x c : Bank) : Sendable (flushMessages cfg x c) := by
  refine .cons rfl rfl ?_
  iterate 10 refine .append ?_ ?_
  · exact .whenChanged _ (sendable_emitFreqA _)
  · exact .whenChanged _ (sendable_emitFreqB _)
  · exact .whenChanged _ (sendable_emitFreqC _)
  · exact .whenChanged _ (sendable_emitNoise _)
  · exact .whenChanged _ (sendable_emitMixer _)
  · exact .whenChanged _ (sendable_emitLevelA _)
  · exact .whenChanged _ (sendable_emitLevelB _)
  · exact .whenChanged _ (sendable_emitLevelC _)
  · exact .whenChanged _ (sendable_emitEnvFreq cfg _)
  · exact .whenChanged _ (sendable_emitShape _)
  · exact .cons rfl rfl .nil

/-! ### The invariant under the updates that keep a session going -/

/-- Time and interrupt may come at any moment: what was due stays due (R31, R37). -/
theorem sampleInputs_inv {s : State} (h : Inv s) : Inv (sampleInputs s) :=
  have hnow : s.now ≤ (sampleInputs s).now := Nat.le_add_right _ _
  { h with
    timely := fun hvalid => (h.timely hvalid).trans hnow
    anchored := h.anchored.trans hnow
    heldBack := fun i hi =>
      have ⟨k, hclock, hdue⟩ := h.heldBack i hi
      ⟨k, hclock, hdue.trans hnow⟩ }

/-- The head of the queue taken for its Send. -/
theorem withOutbox_inv {s : State} {i : Instr} {rest : List Instr} (h : Inv s) (hqueue : s.outbox = i :: rest) :
    Inv (withOutbox rest s) :=
  { h with
    queued := fun j hj => h.queued j (hqueue ▸ List.mem_cons_of_mem i hj)
    sending := fun hrun _ => h.sending hrun (by simp [hqueue])
    quiet := fun hdone => absurd (h.quiet hdone) (by simp [hqueue]) }

theorem accept_inv {s : State} (m : Message) (h : Inv s) : Inv (accept m s) := { h with }

theorem turnAway_inv {s : State} (h : Inv s) : Inv (turnAway s) := { h with }

/-- The commit copies a bank whose reserved slots are zero, outside every RESET. -/
theorem commitFlush_inv {s : State} (h : Inv s) : Inv (commitFlush s) := by
  unfold commitFlush
  split
  · next hflush =>
    obtain ⟨hx14, hx15, -, -⟩ := h.reserved
    exact { h with
      reserved := ⟨hx14, hx15, hx14, hx15⟩
      zeroed := fun hreset => by
        obtain hphase | hphase := phase_of_flushing hflush <;> simp [hphase] at hreset }
  · exact h

theorem afterSend_inv {s : State} (i : Instr) (h : Inv s) : Inv (afterSend i s) := by
  unfold afterSend
  split
  · exact commitFlush_inv h
  · exact h

/-- FETCH moves past a whole record only (R91). -/
theorem pastRecord_inv {s : State} (h : Inv s) (hlen : 10 * s.pc + 10 ≤ s.trace.len) : Inv (pastRecord s) :=
  { h with withinTrace := hlen }

/-- Session start needs nothing of the state before it but its trace and configuration (R211). -/
theorem startSession_inv {s : State} (htrace : s.trace.wf = true) (hconfig : s.config.wf = true) :
    Inv (startSession s) where
  guard := by simp
  sink := by simp
  reserved := by simp
  zeroed := by simp
  queued := sendable_resetMessages
  inRun := by simp
  sending := by simp
  quiet := by simp
  waiting := by simp
  heldBack := by simp
  timely := by simp
  noEventYet := by simp
  anchored := by simp
  traceForm := htrace
  configForm := hconfig
  warnings := by simp
  running := by simp
  withinTrace := by simp

/-- The start RESET is over: every deadline counts from the anchor captured now (R125). -/
theorem beginRun_inv {s : State} (h : Inv s) (hphase : s.phase = .startReset) (hqueue : s.outbox = []) :
    Inv (beginRun s) where
  guard := by simpa [hphase] using h.guard
  sink := by simpa [hphase] using h.sink
  reserved := h.reserved
  zeroed := by simp
  queued := h.queued
  inRun := fun _ => rfl
  sending := fun _ hne => absurd hqueue hne
  quiet := by simp
  waiting := h.waiting
  heldBack := fun i hi => absurd (h.inRun (by simp_all)) (by simp [hphase])
  timely := fun hvalid => by simp [h.noEventYet hphase hvalid]
  noEventYet := by simp
  anchored := le_refl s.now
  traceForm := h.traceForm
  configForm := h.configForm
  warnings := h.warnings
  running := fun _ => h.running (.inl hphase)
  withinTrace := h.withinTrace

/-! ### The invariant where a session ends -/

/-- What TEARDOWN or a final FLUSH needs of the state it begins in: the invariant but for the clauses on the cause, the
queue and the place, which the end of the session writes anew. -/
structure Endable (s : State) : Prop where
  guard : s.teardownDone = false
  sink : s.sinkOpen = true
  reserved : s.x[14] = 0 ∧ s.x[15] = 0 ∧ s.c[14] = 0 ∧ s.c[15] = 0
  timely : s.prevValid = true → s.anchor + s.prevClock.toNat * 125 ≤ s.now
  anchored : s.anchor ≤ s.now
  traceForm : s.trace.wf = true
  configForm : s.config.wf = true
  warnings : s.warnCount = (s.diag.filter isWarning).length
  withinTrace : 10 * s.pc ≤ s.trace.len

/-- A session can end from every phase before TEARDOWN. -/
theorem endable_of_inv {s : State} (h : Inv s) (hoff : s.phase ≠ .off) (hend : s.phase ≠ .endReset)
    (hdone : s.phase ≠ .done) : Endable s where
  guard := Bool.eq_false_iff.mpr fun hset => (h.guard.mp hset).elim hend hdone
  sink := h.sink.mpr ⟨hoff, hdone⟩
  reserved := h.reserved
  timely := h.timely
  anchored := h.anchored
  traceForm := h.traceForm
  configForm := h.configForm
  warnings := h.warnings
  withinTrace := h.withinTrace

/-- A condition that is no warning leaves the count of warnings right (R32). -/
theorem givenUp_warnings {s : State} {e : Condition} (he : isWarning e = false)
    (h : s.warnCount = (s.diag.filter isWarning).length) :
    (givenUp e s).warnCount = ((givenUp e s).diag.filter isWarning).length := by
  simpa [he] using h

theorem givenUp_endable {s : State} {e : Condition} (he : isWarning e = false) (h : Endable s) : Endable (givenUp e s) :=
  { h with warnings := givenUp_warnings he h.warnings }

/-- TEARDOWN enters the teardown RESET with the invariant (R188). -/
theorem teardown_inv {s : State} (h : Endable s) (hstage : s.stage = .fetch) : Inv (teardown s) := by
  rw [teardown_first h.guard]
  exact { h with
    guard := by simp
    sink := by simp [h.sink]
    reserved := by simp
    zeroed := fun _ => ⟨rfl, rfl⟩
    queued := sendable_resetMessages
    inRun := fun hne => absurd hstage hne
    sending := nofun
    quiet := nofun
    waiting := by simp [hstage]
    heldBack := by simp [hstage]
    noEventYet := nofun
    running := by simp }

/-- The final FLUSH begins with the invariant (R112). -/
theorem beginFinalFlush_inv {s : State} (h : Endable s) (hstage : s.stage = .fetch) : Inv (beginFinalFlush s) where
  guard := by simp [h.guard]
  sink := by simp [h.sink]
  reserved := h.reserved
  zeroed := by simp
  queued := sendable_flushMessages s.config s.x s.c
  inRun := fun hne => absurd hstage hne
  sending := nofun
  quiet := nofun
  waiting := by simp [hstage]
  heldBack := by simp [hstage]
  timely := h.timely
  noEventYet := nofun
  anchored := h.anchored
  traceForm := h.traceForm
  configForm := h.configForm
  warnings := h.warnings
  running := by simp
  withinTrace := h.withinTrace

theorem endWithoutFlush_inv {s : State} (h : Endable s) (hstage : s.stage = .fetch) : Inv (endWithoutFlush s) := by
  unfold endWithoutFlush
  split
  · exact beginFinalFlush_inv h hstage
  all_goals exact teardown_inv h hstage

theorem completeStream_inv {s : State} (h : Endable s) (hstage : s.stage = .fetch) : Inv (completeStream s) := by
  unfold completeStream
  split
  · exact teardown_inv h hstage
  all_goals exact beginFinalFlush_inv h hstage

/-- Outside RUN no record is in progress (R33). -/
theorem stage_fetch_of_inv {s : State} (h : Inv s) (hphase : s.phase ≠ .run) : s.stage = .fetch :=
  by_contra fun hne => hphase (h.inRun hne)

/-- The sink is closed after the last message of the teardown RESET (R39, R188). -/
theorem closeSink_inv {s : State} (h : Inv s) (hphase : s.phase = .endReset) (hqueue : s.outbox = []) :
    Inv (closeSink s) :=
  { h with
    guard := by simp [h.guard.mpr (.inl hphase)]
    sink := by simp
    zeroed := fun _ => h.zeroed (.inr (.inl hphase))
    inRun := fun hne => absurd (stage_fetch_of_inv h (by simp [hphase])) hne
    sending := nofun
    quiet := fun _ => hqueue
    noEventYet := nofun
    running := by simp }

theorem raise_interrupt_inv {s : State} (h : Endable s) : Inv (raise .interrupt s) := by
  rw [raise_interrupt]
  exact endWithoutFlush_inv (givenUp_endable rfl h) rfl

theorem raise_streamTruncated_inv {s : State} (index count : Nat) (h : Endable s) :
    Inv (raise (.streamTruncated index count) s) := by
  rw [raise_streamTruncated]
  have hup : Endable (givenUp (.streamTruncated index count) s) := givenUp_endable rfl h
  exact endWithoutFlush_inv { hup with } rfl

/-- A failed Send enters TEARDOWN, or inside the teardown RESET gives up the rest of it (R185, R190). -/
theorem raise_sendFailure_inv {s : State} (m : Message) (h : Inv s) (hoff : s.phase ≠ .off) (hdone : s.phase ≠ .done) :
    Inv (raise (.sendFailure m) s) := by
  by_cases hphase : s.phase = .endReset
  · rw [raise_sendFailure_inTeardown hphase]
    exact { h with
      queued := fun _ hi => absurd hi List.not_mem_nil
      inRun := fun hne => absurd rfl hne
      sending := fun _ hne => absurd rfl hne
      quiet := fun _ => rfl
      waiting := nofun
      heldBack := nofun
      warnings := givenUp_warnings rfl h.warnings
      running := fun hrun => absurd hrun (by simp [hphase]) }
  · rw [raise_sendFailure_teardown hphase]
    exact teardown_inv (givenUp_endable rfl (endable_of_inv h hoff hphase hdone)) rfl

/-! ### The invariant under one event -/

theorem inEventFlush_eq_true {s : State} : inEventFlush s = true ↔ ∃ i, s.stage = .flush i := by
  unfold inEventFlush
  split <;> simp_all

/-- In RUN the session can end. -/
theorem endable_of_run {s : State} (h : Inv s) (hphase : s.phase = .run) : Endable s :=
  endable_of_inv h (by simp [hphase]) (by simp [hphase]) (by simp [hphase])

/-- An invalid event is counted and dropped (R183). -/
theorem raise_invalidRegisterIndex_inv {s : State} (index : Nat) (register : Byte) (h : Inv s) (hqueue : s.outbox = []) :
    Inv (raise (.invalidRegisterIndex index register) s) :=
  { h with
    inRun := fun hne => absurd rfl hne
    sending := fun _ hne => absurd hqueue hne
    waiting := nofun
    heldBack := nofun
    warnings := by
      have hwarning : isWarning (.invalidRegisterIndex index register) = true := rfl
      simp [raise, h.warnings, hwarning] }

theorem waitInGate_inv {s : State} {i : Instr} (hrec : i.isMessage = false) (h : Inv s) (hphase : s.phase = .run)
    (hqueue : s.outbox = []) : Inv (waitInGate i s) := by
  unfold waitInGate
  split
  · exact raise_interrupt_inv (endable_of_run h hphase)
  · exact { h with
      inRun := fun _ => hphase
      sending := fun _ hne => absurd hqueue hne
      waiting := fun j hj => by cases hj; exact hrec
      heldBack := nofun }

theorem startEventFlush_inv {s : State} {i : Instr} {k : Tick} (hclock : i.writeClock? = some k)
    (hdue : s.anchor + k.toNat * 125 ≤ s.now) (h : Inv s) (hphase : s.phase = .run) : Inv (startEventFlush i s) :=
  { h with
    queued := sendable_flushMessages s.config s.x s.c
    inRun := fun _ => hphase
    sending := fun _ _ => rfl
    quiet := fun hdone => absurd hdone (by simp [hphase])
    waiting := nofun
    heldBack := fun j hj => by cases hj; exact ⟨k, hclock, hdue⟩ }

/-- A slot write whose deadline has passed leaves the reserved slots and the deadlines right (R22, R128). -/
theorem applyWrite_inv {s : State} {slot : Fin 16} {k : Tick} (v : Byte) (hslot : slot.val < 14)
    (hdue : s.anchor + k.toNat * 125 ≤ s.now) (h : Inv s) (hphase : s.phase = .run) (hqueue : s.outbox = []) :
    Inv (applyWrite slot k v s) := by
  obtain ⟨hx14, hx15, hc⟩ := h.reserved
  have hne14 : slot.val ≠ 14 := by omega
  have hne15 : slot.val ≠ 15 := by omega
  exact { h with
    reserved := ⟨by simp [hne14, hx14], by simp [hne15, hx15], hc⟩
    zeroed := fun hreset => by simp [hphase] at hreset
    inRun := fun hne => absurd rfl hne
    sending := fun _ hne => absurd hqueue hne
    waiting := nofun
    heldBack := nofun
    timely := fun _ => hdue
    noEventYet := fun hstart => by simp [hphase] at hstart }

/-! ### The invariant under every step -/

/-- A record runs in RUN with no message left, and is the one its own FLUSH has held back. -/
theorem exec_record_inv {i : Instr} {s t : State} (hrec : i.isMessage = false) (h : Inv s) (hphase : s.phase = .run)
    (hqueue : s.outbox = []) (hheld : ∀ j, s.stage = .flush j → j = i) (hexec : exec i s = .next t) : Inv t := by
  obtain ⟨slot, k, v, hslot, hclock, hready, rfl⟩ | ⟨-, rfl⟩ | ⟨k, hclock, -, hdue, -, rfl⟩ | ⟨-, -, r, rfl⟩ |
    ⟨hmsg, -⟩ := exec_next_cases hexec
  · have hdue : s.anchor + k.toNat * 125 ≤ s.now := by
      obtain hflush | ⟨hdue, -⟩ := hready
      · obtain ⟨j, hstage⟩ := inEventFlush_eq_true.mp hflush
        obtain ⟨k', hclock', hdue⟩ := h.heldBack j hstage
        rw [hheld j hstage, hclock] at hclock'
        rwa [Option.some.inj hclock']
      · exact tooEarly_eq_false.mp hdue
    exact applyWrite_inv v hslot hdue h hphase hqueue
  · exact waitInGate_inv hrec h hphase hqueue
  · exact startEventFlush_inv hclock (tooEarly_eq_false.mp hdue) h hphase
  · exact raise_invalidRegisterIndex_inv _ r h hqueue
  · rw [hrec] at hmsg; cases hmsg

theorem exec_message_inv {i : Instr} {s t : State} (hmsg : i.isMessage = true) (h : Inv s) (hoff : s.phase ≠ .off)
    (hdone : s.phase ≠ .done) (hexec : exec i s = .next t) : Inv t := by
  obtain ⟨m, -, hsend⟩ := exec_message hmsg s
  obtain ⟨-, ⟨-, rfl⟩ | ⟨-, rfl⟩⟩ := sendThen_next (hsend ▸ hexec)
  · exact afterSend_inv i (accept_inv m h)
  · exact raise_sendFailure_inv m (turnAway_inv h) hoff hdone

/-- What waits in GATE or is held back by a FLUSH is a record. -/
theorem inProgress_isRecord {s : State} {i : Instr} (h : Inv s) (hstage : s.stage = .gate i ∨ s.stage = .flush i) :
    i.isMessage = false := by
  obtain hgate | hflush := hstage
  · exact h.waiting i hgate
  · obtain ⟨k, hclock, -⟩ := h.heldBack i hflush
    exact isMessage_of_writeClock hclock

theorem run_step_inv {i : Instr} {s u t : State} (h : Inv s) (hrun : nextAction s = .run i u) (hexec : exec i u = .next t) :
    Inv t := by
  obtain ⟨hoff, hdone, -⟩ := nextAction_run hrun
  have hin := sampleInputs_inv h
  obtain ⟨rest, hqueue, rfl⟩ | ⟨hqueue, hphase, hstage, rfl⟩ | ⟨hqueue, hphase, hstage, -, hlen, hrec, rfl⟩ :=
    nextAction_run_cases hrun
  · obtain ⟨hmsg, -⟩ := h.queued i (by simp [hqueue])
    exact exec_message_inv hmsg (withOutbox_inv hin hqueue) hoff hdone hexec
  · have hheld : ∀ j, (sampleInputs s).stage = .flush j → j = i := fun j hj => by
      obtain hgate | hflush := hstage
      · cases hj.symm.trans hgate
      · cases hj.symm.trans hflush; rfl
    exact exec_record_inv (inProgress_isRecord h hstage) hin hphase hqueue hheld hexec
  · have hheld : ∀ j, (pastRecord (sampleInputs s)).stage = .flush j → j = i := fun j hj => by
      cases hj.symm.trans hstage
    exact exec_record_inv hrec (pastRecord_inv hin hlen) hphase hqueue hheld hexec

theorem advance_settle_inv {s t : State} (h : Inv s) (hqueue : s.outbox = []) (hadvance : advance s = .settle t) :
    Inv t := by
  obtain ⟨-, rfl⟩ | ⟨hphase, rfl⟩ | ⟨hphase, -, -, rfl⟩ | ⟨hphase, hstage, -, -, rfl⟩ | ⟨hphase, -, -, -, -, rfl⟩ |
    ⟨hphase, rfl⟩ | ⟨hphase, rfl⟩ | ⟨-, rfl⟩ := advance_settle hadvance
  · exact startSession_inv h.traceForm h.configForm
  · exact beginRun_inv h hphase hqueue
  · exact raise_interrupt_inv (endable_of_run h hphase)
  · exact completeStream_inv (endable_of_run h hphase) hstage
  · exact raise_streamTruncated_inv _ _ (endable_of_run h hphase)
  · have hend : Endable s := endable_of_inv h (by simp [hphase]) (by simp [hphase]) (by simp [hphase])
    exact teardown_inv hend (stage_fetch_of_inv h (by simp [hphase]))
  · exact closeSink_inv h hphase hqueue
  · exact h

/-- Every step keeps the session's invariant. -/
theorem step_inv {s t : State} (h : Inv s) (hstep : step s = .next t) : Inv t := by
  obtain ⟨i, u, hrun, hexec⟩ | hsettle := step_next hstep
  · exact run_step_inv h hrun hexec
  · obtain ⟨-, rfl⟩ | ⟨-, rfl⟩ | ⟨-, -, hqueue, hadvance⟩ := nextAction_settle hsettle
    · exact startSession_inv h.traceForm h.configForm
    · exact h
    · exact advance_settle_inv (sampleInputs_inv h) hqueue hadvance

/-! ### The teardown RESET -/

/-- In a RESET no FLUSH is in progress, so an accepted message has no further effect (R170). -/
theorem afterSend_inTeardown {s : State} (i : Instr) (h : s.phase = .endReset) : afterSend i s = s := by
  unfold afterSend
  split
  · simp [commitFlush, flushing, h]
  · rfl

/-- What the end of a session keeps from the state the teardown RESET is in, the cause apart (R39). -/
def EndKeeps (s t : State) : Prop :=
  t.pc = s.pc ∧ t.prevValid = s.prevValid ∧ t.prevClock = s.prevClock ∧ t.anchor = s.anchor ∧
    t.warnCount = s.warnCount ∧ t.truncated = s.truncated

theorem EndKeeps.trans {s u t : State} (h₁ : EndKeeps s u) (h₂ : EndKeeps u t) : EndKeeps s t := by
  obtain ⟨hpc, hvalid, hclock, hanchor, hwarn, htrunc⟩ := h₂
  unfold EndKeeps
  rwa [hpc, hvalid, hclock, hanchor, hwarn, htrunc]

/-- With no message left, the step closes the sink (R188). -/
theorem step_inTeardown_quiet {s : State} (hphase : s.phase = .endReset) (hqueue : s.outbox = []) :
    ∃ u, step s = .next u ∧ u.phase = .done ∧ EndKeeps s u ∧ u.exitCause = s.exitCause := by
  refine ⟨closeSink (sampleInputs s), ?_, rfl, ?_, rfl⟩
  · simp [step, nextAction, sendOrAdvance, advance, hphase, hqueue]
  · simp [EndKeeps]

/-- Within a session the step with a message left is the Send of that message. -/
theorem step_queued {s : State} {i : Instr} {rest : List Instr} (h : Inv s) (hoff : s.phase ≠ .off)
    (hdone : s.phase ≠ .done) (hqueue : s.outbox = i :: rest) :
    ∃ m, step s = sendThen m (afterSend i) (withOutbox rest (sampleInputs s)) := by
  obtain ⟨hmsg, -⟩ := h.queued i (by simp [hqueue])
  obtain ⟨m, -, hsend⟩ := exec_message hmsg (withOutbox rest (sampleInputs s))
  exact ⟨m, (Proofs.stepRunsTheNextMessage s i rest hoff hdone hqueue).trans hsend⟩

theorem sendThen_inTeardown_ok {m : Message} {i : Instr} {s : State} (hphase : s.phase = .endReset)
    (hopen : s.sinkOpen = true) (hanswer : sinkAccepts s = true) :
    sendThen m (afterSend i) s = .next (accept m s) := by
  rw [sendThen_ok hopen hanswer, afterSend_inTeardown (s := accept m s) i hphase]

theorem sendThen_inTeardown_fail {m : Message} {i : Instr} {s : State} (hphase : s.phase = .endReset)
    (hopen : s.sinkOpen = true) (hanswer : sinkAccepts s = false) :
    sendThen m (afterSend i) s = .next (givenUp (.sendFailure m) (turnAway s)) := by
  rw [sendThen_fail hopen hanswer, raise_sendFailure_inTeardown (s := turnAway s) hphase]

/-- With a message left and the sink answering `ok`, the step sends it and nothing else. -/
theorem step_inTeardown_accepted {s : State} {i : Instr} {rest : List Instr} (h : Inv s) (hphase : s.phase = .endReset)
    (hqueue : s.outbox = i :: rest) (hanswer : sinkAccepts s = true) :
    ∃ u, step s = .next u ∧ u.phase = .endReset ∧ u.outbox = rest ∧ u.answers = s.answers.tail ∧ EndKeeps s u ∧
      u.exitCause = s.exitCause := by
  obtain ⟨m, hstep⟩ := step_queued h (by simp [hphase]) (by simp [hphase]) hqueue
  have hopen : s.sinkOpen = true := h.sink.mpr (by simp [hphase])
  refine ⟨accept m (withOutbox rest (sampleInputs s)), ?_, hphase, rfl, rfl, ?_, rfl⟩
  · exact hstep.trans (sendThen_inTeardown_ok (s := withOutbox rest (sampleInputs s)) hphase hopen hanswer)
  · simp [EndKeeps]

/-- With a message left and the sink answering `fail`, the step gives up the RESET (R190). -/
theorem step_inTeardown_failed {s : State} {i : Instr} {rest : List Instr} (h : Inv s) (hphase : s.phase = .endReset)
    (hqueue : s.outbox = i :: rest) (hanswer : sinkAccepts s = false) :
    ∃ u, step s = .next u ∧ u.phase = .endReset ∧ u.outbox = [] ∧ EndKeeps s u ∧ u.exitCause = .sendFailure := by
  obtain ⟨m, hstep⟩ := step_queued h (by simp [hphase]) (by simp [hphase]) hqueue
  have hopen : s.sinkOpen = true := h.sink.mpr (by simp [hphase])
  refine ⟨givenUp (.sendFailure m) (turnAway (withOutbox rest (sampleInputs s))), ?_, by simpa using hphase, by simp, ?_,
    by simp [Condition.cause]⟩
  · exact hstep.trans (sendThen_inTeardown_fail (s := withOutbox rest (sampleInputs s)) hphase hopen hanswer)
  · simp [EndKeeps]

/-- A run goes on from the state its first step answers. -/
theorem run_succ {s u : State} (h : step s = .next u) (n : Nat) :
    Sys2Proof.core.run (n + 1) s = Sys2Proof.core.run n u := by
  simp only [Host.Core.run, show Sys2Proof.core.step s = .next u from h]

/-- After an accepted Send the answers to come are those past the first. -/
theorem all_answers_of_accepted {s : State} (h : sinkAccepts s = true) (n : Nat) :
    (s.answers.take (n + 1)).all id = (s.answers.tail.take n).all id := by
  unfold sinkAccepts at h
  cases hanswers : s.answers <;> simp_all

theorem all_answers_of_failed {s : State} (h : sinkAccepts s = false) (n : Nat) :
    (s.answers.take (n + 1)).all id = false := by
  unfold sinkAccepts at h
  cases hanswers : s.answers <;> simp_all

/-- From the teardown RESET, one step more than there are messages left reaches DONE, whatever the sink answers: a
message accepted leaves one less, a message refused leaves none (R190, D10). -/
theorem run_inTeardown {s : State} (h : Inv s) (hphase : s.phase = .endReset) :
    ∃ t, Sys2Proof.core.run (s.outbox.length + 1) s = .next t ∧ Inv t ∧ t.phase = .done ∧ EndKeeps s t ∧
      t.exitCause = if (s.answers.take s.outbox.length).all id then s.exitCause else .sendFailure := by
  induction hqueue : s.outbox generalizing s with
  | nil =>
    obtain ⟨t, hstep, hdone, hkeeps, hcause⟩ := step_inTeardown_quiet hphase hqueue
    exact ⟨t, run_succ hstep 0, step_inv h hstep, hdone, hkeeps, hcause⟩
  | cons i rest ih =>
    cases hanswer : sinkAccepts s with
    | true =>
      obtain ⟨u, hstep, hphase', hqueue', hanswers, hkeeps, hcause⟩ := step_inTeardown_accepted h hphase hqueue hanswer
      obtain ⟨t, hrun, hinv, hdone, hkeeps', hcause'⟩ := ih (step_inv h hstep) hphase' hqueue'
      refine ⟨t, (run_succ hstep _).trans hrun, hinv, hdone, hkeeps.trans hkeeps', ?_⟩
      rw [hcause', hcause, hanswers, List.length_cons, all_answers_of_accepted hanswer]
    | false =>
      obtain ⟨u, hstep, hphase', hqueue', hkeeps, hcause⟩ := step_inTeardown_failed h hphase hqueue hanswer
      obtain ⟨t, hstep', hdone, hkeeps', hcause'⟩ := step_inTeardown_quiet hphase' hqueue'
      refine ⟨t, ?_, step_inv (step_inv h hstep) hstep', hdone, hkeeps.trans hkeeps', ?_⟩
      · rw [List.length_cons, run_succ hstep, run_succ hstep', run_done hdone]
      · rw [hcause', hcause, List.length_cons, all_answers_of_failed hanswer]
        rfl

/-! ### Masked bits (R81) -/

/-- Only the 4 low bits of the high slot of a 12-bit frequency are read (R78). -/
theorem freqValue_congr {lo lo' hi hi' : Byte} (hlo : lo = lo') (hhi : hi.toNat % 16 = hi'.toNat % 16) :
    freqValue lo hi = freqValue lo' hi' := by
  have hmask (b : Byte) : (b.toNat <<< 8) &&& 0xF00 = (b.toNat % 16) <<< 8 := by
    have hlow : b.toNat &&& 0xF = b.toNat % 16 := Nat.and_two_pow_sub_one_eq_mod b.toNat 4
    rw [← hlow, Nat.shiftLeft_and_distrib]
    rfl
  simp only [freqValue, hmask, hlo, hhi]

/-- Only the 5 low bits of a noise frequency are read (R78). -/
theorem noiseValue_congr {v v' : Byte} (h : v.toNat % 32 = v'.toNat % 32) : noiseValue v = noiseValue v' := by
  have hlow (b : Byte) : noiseValue b = b.toNat % 32 := Nat.and_two_pow_sub_one_eq_mod b.toNat 5
  rw [hlow, hlow, h]

/-- Only the 6 low bits of a mixer value are read (R78). -/
theorem mixerValue_congr {v v' : Byte} (h : v.toNat % 64 = v'.toNat % 64) : mixerValue v = mixerValue v' := by
  have hlow (b : Byte) : mixerValue b = b.toNat % 64 := Nat.and_two_pow_sub_one_eq_mod b.toNat 6
  rw [hlow, hlow, h]

/-- Only the 5 low bits of a level are read (R78). -/
theorem levelValue_congr {v v' : Byte} (h : v.toNat % 32 = v'.toNat % 32) : levelValue v = levelValue v' :=
  noiseValue_congr h

/-- Only the 4 low bits of an envelope shape are read (R78). -/
theorem shapeValue_congr {v v' : Byte} (h : v.toNat % 16 = v'.toNat % 16) : shapeValue v = shapeValue v' := by
  have hlow (b : Byte) : shapeValue b = b.toNat % 16 := Nat.and_two_pow_sub_one_eq_mod b.toNat 4
  rw [hlow, hlow, h]

/-- Whether a slot differs from the committed one is a matter of whole bytes (R147). -/
theorem slotDiffers_congr {x x' y : Bank} {i : Fin 16} (h : x[i] = y[i] ↔ x'[i] = y[i]) :
    slotDiffers x y i = slotDiffers x' y i := by
  simp only [slotDiffers, bne, beq_eq_beq.mpr h]

end Sys2Proof.Machine

namespace Sys2Proof.Proofs

open Sys2Proof Sys2Proof.Machine

/-- Settles O46, by what each row and each action of the sequencer does to the clauses of the invariant. -/
theorem everyStepKeepsTheSessionInvariant : Obligations.EveryStepKeepsTheSessionInvariant :=
  fun _ _ hinv hstep => step_inv hinv hstep

/-- Settles O20: the comparisons see the same slots, and each encoder reads only the bits on which the banks agree. -/
theorem maskedBitsNeverReachAPayload : Obligations.MaskedBitsNeverReachAPayload := by
  intro cfg x x' y hused hdiffers
  obtain ⟨h0, h1, h2, h3, h4, h5, h6, h7, h8, h9, h10, h11, h12, h13⟩ := hused
  have hslot (i : Fin 16) (hi : i.val < 14) : slotDiffers x y i = slotDiffers x' y i := slotDiffers_congr (hdiffers i hi)
  have hchanged :
      changedFreqA x y = changedFreqA x' y ∧ changedFreqB x y = changedFreqB x' y ∧
      changedFreqC x y = changedFreqC x' y ∧ changedNoise x y = changedNoise x' y ∧
      changedMixer x y = changedMixer x' y ∧ changedLevelA x y = changedLevelA x' y ∧
      changedLevelB x y = changedLevelB x' y ∧ changedLevelC x y = changedLevelC x' y ∧
      changedEnvFreq x y = changedEnvFreq x' y ∧ changedShape x y = changedShape x' y := by
    simp [changedFreqA, changedFreqB, changedFreqC, changedNoise, changedMixer, changedLevelA, changedLevelB,
      changedLevelC, changedEnvFreq, changedShape, hslot]
  obtain ⟨hA, hB, hC, hnoise, hmixer, hlA, hlB, hlC, henv, hshape⟩ := hchanged
  have hfA : fA x = fA x' := freqValue_congr h0 h1
  have hfB : fB x = fB x' := freqValue_congr h2 h3
  have hfC : fC x = fC x' := freqValue_congr h4 h5
  simp only [flushMessages, hA, hB, hC, hnoise, hmixer, hlA, hlB, hlC, henv, hshape, hfA, hfB, hfC,
    noiseValue_congr h6, mixerValue_congr h7, levelValue_congr h8, levelValue_congr h9, levelValue_congr h10, h11, h12,
    shapeValue_congr h13]

/-- Settles O31, by the three kinds of rows: a record always goes on, a message goes on exactly while the sink is held. -/
theorem onlyASendWithoutSinkStops : Obligations.OnlyASendWithoutSinkStops := by
  intro i s
  cases hmsg : i.isMessage with
  | false =>
    obtain ⟨t, hnext⟩ := exec_record_next hmsg s
    simp [hnext]
  | true =>
    cases hopen : s.sinkOpen with
    | true =>
      obtain ⟨t, hnext⟩ := exec_message_next hmsg hopen
      simp [hnext]
    | false =>
      have hfault := exec_message_closed hmsg hopen
      simp only [hfault]
      exact ⟨nofun, fun f => by cases f; simp⟩

/-- Settles O47: the sink is held whenever a message is sent. -/
theorem noStepOfASessionStops : Obligations.NoStepOfASessionStops := by
  intro s h
  cases haction : nextAction s with
  | settle t => exact ⟨t, by simp [step, haction]⟩
  | run i u =>
    rw [step_of_run haction]
    cases hmsg : i.isMessage with
    | false => exact exec_record_next hmsg u
    | true =>
      obtain ⟨hoff, hdone, -⟩ := nextAction_run haction
      obtain ⟨-, -, -, hsink, -⟩ := nextAction_run_keeps haction
      exact exec_message_next hmsg (hsink.trans (h.sink.mpr ⟨hoff, hdone⟩))

/-- Settles O48, by what becomes of the two banks in a step. -/
theorem committedBankChangesOnlyAsAWhole : Obligations.CommittedBankChangesOnlyAsAWhole := by
  intro s t hstep
  obtain (⟨-, hkept⟩ | ⟨-, hzero⟩) | ⟨hkept, -⟩ | hcommit := step_banks hstep
  · exact .inl hkept
  · exact .inr (.inl hzero)
  · exact .inl hkept
  · exact .inr (.inr hcommit)

/-- Settles O49, by what becomes of the two banks in a step. -/
theorem pendingBankChangesOneWritableSlot : Obligations.PendingBankChangesOneWritableSlot := by
  intro s t hstep
  obtain (⟨hkept, -⟩ | ⟨hzero, -⟩) | ⟨-, hwritten⟩ | ⟨-, hkept, -⟩ := step_banks hstep
  · exact .inl hkept
  · exact .inr (.inl hzero)
  · exact .inr (.inr hwritten)
  · exact .inl hkept

/-- Settles O52: rows move neither, FETCH moves the index, and the end of the start RESET captures the anchor (D11). -/
theorem recordIndexAndAnchorMoveOnlyAsStated : Obligations.RecordIndexAndAnchorMoveOnlyAsStated := by
  intro s t hoff hstep
  obtain ⟨i, u, hrun, hexec⟩ | hsettle := step_next hstep
  · obtain ⟨hpc, hanchor⟩ := exec_pc_anchor hexec
    obtain ⟨-, -, -, -, hkeeps, -⟩ := nextAction_run_keeps hrun
    rw [hpc]
    exact ⟨nextAction_run_pc hrun, .inl (hanchor.trans hkeeps)⟩
  · obtain ⟨hphase, -⟩ | ⟨-, rfl⟩ | ⟨-, -, -, hadvance⟩ := nextAction_settle hsettle
    · contradiction
    · exact ⟨.inl rfl, .inl rfl⟩
    · obtain ⟨hpc, hanchor⟩ := advance_settle_pc_anchor (s := sampleInputs s) hoff hadvance
      exact ⟨.inl hpc, hanchor⟩

/-- Settles O58, by induction on the messages left. -/
theorem teardownAlwaysReachesDone : Obligations.TeardownAlwaysReachesDone := by
  intro s h hphase
  obtain ⟨t, hrun, hinv, hdone, ⟨hpc, hvalid, hclock, hanchor, hwarn, htrunc⟩, hcause⟩ := run_inTeardown h hphase
  obtain ⟨hx, hc⟩ := hinv.zeroed (.inr (.inr hdone))
  have hbanks : ∀ i : Fin 16, t.x[i] = 0 ∧ t.c[i] = 0 := fun i => by
    rw [hx, hc]
    exact ⟨Bank.zero_slots i, Bank.zero_slots i⟩
  have hguard : t.teardownDone = true := hinv.guard.mpr (.inr hdone)
  have hsink : t.sinkOpen = false := Bool.eq_false_iff.mpr fun hheld => (hinv.sink.mp hheld).2 hdone
  exact ⟨t, hrun, hdone, hbanks, hguard, hsink, hpc, hvalid, hclock, hanchor, hwarn, htrunc, hcause⟩

/-- Settles O42: DONE is its own next state. -/
theorem doneIsFinal : Obligations.DoneIsFinal :=
  fun _ n hdone => run_done hdone n

/-- Settles O44: each value stands in the definition of the reset state. -/
theorem resetHoldsTheTableOfCreationValues : Obligations.ResetHoldsTheTableOfCreationValues :=
  ⟨fun i => ⟨Bank.zero_slots i, Bank.zero_slots i⟩, rfl, rfl, rfl, rfl, rfl, rfl, rfl, rfl, rfl, rfl, rfl⟩

/-- Settles O45: reset is the session start of its own empty trace and default configuration. -/
theorem resetMeetsTheSessionInvariant : Obligations.ResetMeetsTheSessionInvariant :=
  startSession_inv (s := State.reset) (by decide) (by decide)

end Sys2Proof.Proofs

/-! SUPPORT. A record's bytes as a number, what no step writes, and the obligations on the trace (spec 20_memory.md). -/

namespace Sys2Proof

/-! ### The bytes of a record -/

/-- One byte more in trace order is one digit more to base 256, up to the width of a record. -/
theorem shiftInByte_toNat (w : Rec) (b : Byte) :
    ((w <<< 8) ||| b.zeroExtend 80).toNat = (b.toNat + 256 * w.toNat) % 2 ^ 80 := by
  have hdisjoint : (w <<< 8) &&& b.zeroExtend 80 = 0#80 := by
    ext j hj
    by_cases hlow : j < 8
    · simp [hlow]
    · simp [BitVec.getLsbD_of_ge b j (by omega)]
  have hb := b.isLt
  rw [← BitVec.add_eq_or_of_and_eq_zero _ _ hdisjoint]
  simp [Nat.shiftLeft_eq]
  omega

/-- The bytes of a record are its digits to base 256, the first byte the most significant (R50, R71). -/
theorem recordOfBytes_toNat (bs : List Byte) :
    (recordOfBytes bs).toNat = Nat.ofDigits 256 (bs.reverse.map BitVec.toNat) % 2 ^ 80 := by
  induction bs using List.reverseRecOn with
  | nil => rfl
  | append_singleton bs b ih =>
    have hstep : recordOfBytes (bs ++ [b]) = (recordOfBytes bs <<< 8) ||| b.zeroExtend 80 := by
      simp [recordOfBytes]
    rw [hstep, shiftInByte_toNat, ih]
    simp [Nat.ofDigits_cons, Nat.add_mod, Nat.mul_mod]

theorem recordClock_toNat (w : Rec) : (recordClock w).toNat = w.toNat / 2 ^ 16 := by
  have hw := w.isLt
  simp [recordClock, Nat.shiftRight_eq_div_pow]
  omega

theorem recordRegister_toNat (w : Rec) : (recordRegister w).toNat = w.toNat / 2 ^ 8 % 2 ^ 8 := by
  simp [recordRegister, Nat.shiftRight_eq_div_pow]

theorem recordValue_toNat (w : Rec) : (recordValue w).toNat = w.toNat % 2 ^ 8 := by
  simp [recordValue]

end Sys2Proof

namespace Sys2Proof.Machine

open Sys2Proof

/-! ### The configuration, the trace and the time -/

@[simp] theorem raise_config (e : Condition) (s : State) : (raise e s).config = s.config := by simp [raise_frame]

@[simp] theorem raise_trace (e : Condition) (s : State) : (raise e s).trace = s.trace := by simp [raise_frame]

@[simp] theorem raise_now (e : Condition) (s : State) : (raise e s).now = s.now := by simp [raise_frame]

@[simp] theorem afterSend_config (i : Instr) (s : State) : (afterSend i s).config = s.config := by
  unfold afterSend; split <;> simp

@[simp] theorem afterSend_trace (i : Instr) (s : State) : (afterSend i s).trace = s.trace := by
  unfold afterSend; split <;> simp

@[simp] theorem afterSend_now (i : Instr) (s : State) : (afterSend i s).now = s.now := by
  unfold afterSend; split <;> simp

@[simp] theorem completeStream_config (s : State) : (completeStream s).config = s.config := by
  unfold completeStream; split <;> simp

@[simp] theorem completeStream_trace (s : State) : (completeStream s).trace = s.trace := by
  unfold completeStream; split <;> simp

@[simp] theorem completeStream_now (s : State) : (completeStream s).now = s.now := by
  unfold completeStream; split <;> simp

@[simp] theorem waitInGate_config (i : Instr) (s : State) : (waitInGate i s).config = s.config := by
  unfold waitInGate; split <;> simp

@[simp] theorem waitInGate_trace (i : Instr) (s : State) : (waitInGate i s).trace = s.trace := by
  unfold waitInGate; split <;> simp

@[simp] theorem waitInGate_now (i : Instr) (s : State) : (waitInGate i s).now = s.now := by
  unfold waitInGate; split <;> simp

/-- The configuration, the trace and the time of `t` are those of `s`. -/
def SurroundingsKept (s t : State) : Prop := t.config = s.config ∧ t.trace = s.trace ∧ t.now = s.now

/-- No row writes the configuration or the trace, and no time passes within one (R37, R64, R213). -/
theorem exec_keeps_surroundings {i : Instr} {s t : State} (h : exec i s = .next t) : SurroundingsKept s t := by
  obtain ⟨slot, k, v, -, -, -, rfl⟩ | ⟨-, rfl⟩ | ⟨k, -, -, -, -, rfl⟩ | ⟨-, -, r, rfl⟩ |
    ⟨-, -, m, -, ⟨-, rfl⟩ | ⟨-, rfl⟩⟩ := exec_next_cases h
  all_goals simp [SurroundingsKept]

/-- The sequencer hands a row over right after the inputs have acted. -/
theorem nextAction_run_surroundings {s u : State} {i : Instr} (h : nextAction s = .run i u) :
    SurroundingsKept (sampleInputs s) u := by
  obtain ⟨rest, -, rfl⟩ | ⟨-, -, -, rfl⟩ | ⟨-, -, -, -, -, -, rfl⟩ := nextAction_run_cases h
  all_goals exact ⟨rfl, rfl, rfl⟩

/-- Between instructions nothing writes the configuration or the trace, and no time passes. -/
theorem advance_settle_keeps_surroundings {s t : State} (h : advance s = .settle t) : SurroundingsKept s t := by
  obtain ⟨-, rfl⟩ | ⟨-, rfl⟩ | ⟨-, -, -, rfl⟩ | ⟨-, -, -, -, rfl⟩ | ⟨-, -, -, -, -, rfl⟩ | ⟨-, rfl⟩ | ⟨-, rfl⟩ |
    ⟨-, rfl⟩ := advance_settle h
  all_goals simp [SurroundingsKept]

/-- A step leaves the configuration, the trace and the time as they were, or as the inputs before it left them (D1). -/
theorem step_surroundings {s t : State} (h : step s = .next t) :
    SurroundingsKept s t ∨ SurroundingsKept (sampleInputs s) t := by
  obtain ⟨i, u, hrun, hexec⟩ | hsettle := step_next h
  · obtain ⟨hconfig, htrace, hnow⟩ := nextAction_run_surroundings hrun
    obtain ⟨hconfig', htrace', hnow'⟩ := exec_keeps_surroundings hexec
    exact .inr ⟨hconfig'.trans hconfig, htrace'.trans htrace, hnow'.trans hnow⟩
  · obtain ⟨-, rfl⟩ | ⟨-, rfl⟩ | ⟨-, -, -, hadvance⟩ := nextAction_settle hsettle
    · exact .inl ⟨rfl, rfl, rfl⟩
    · exact .inl ⟨rfl, rfl, rfl⟩
    · exact .inr (advance_settle_keeps_surroundings hadvance)

/-- The inputs before a step only move time on (R37, D1). -/
theorem now_le_sampleInputs_now (s : State) : s.now ≤ (sampleInputs s).now := Nat.le_add_right _ _

end Sys2Proof.Machine

namespace Sys2Proof.Proofs

open Sys2Proof Sys2Proof.Machine

/-- Settles O3, by reading the record as a number to base 256. -/
theorem recordFieldsAreBigEndian : Obligations.RecordFieldsAreBigEndian := by
  intro b0 b1 b2 b3 b4 b5 b6 b7 b8 b9 w
  have hw : w.toNat = (b0.toNat * 2 ^ 56 + b1.toNat * 2 ^ 48 + b2.toNat * 2 ^ 40 + b3.toNat * 2 ^ 32 + b4.toNat * 2 ^ 24 +
      b5.toNat * 2 ^ 16 + b6.toNat * 2 ^ 8 + b7.toNat) * 2 ^ 16 + b8.toNat * 2 ^ 8 + b9.toNat := by
    simp only [w, recordOfBytes_toNat, List.reverse_cons, List.reverse_nil, List.nil_append, List.cons_append,
      List.map_cons, List.map_nil, Nat.ofDigits_cons, Nat.ofDigits_nil]
    omega
  refine ⟨?_, BitVec.eq_of_toNat_eq ?_, BitVec.eq_of_toNat_eq ?_⟩
  · rw [recordClock_toNat]; omega
  · rw [recordRegister_toNat]; omega
  · rw [recordValue_toNat]; omega

/-- Settles O50: only the inputs before a step move time, and nothing writes the trace or the configuration. -/
theorem stepsNeverWriteTraceOrConfiguration : Obligations.StepsNeverWriteTraceOrConfiguration := by
  intro s t hstep
  obtain ⟨hconfig, htrace, hnow⟩ | ⟨hconfig, htrace, hnow⟩ := step_surroundings hstep
  · exact ⟨hconfig, htrace, fun _ => by rw [htrace], hnow.ge⟩
  · exact ⟨hconfig, htrace, fun _ => by rw [htrace, sampleInputs_trace], hnow.ge.trans' (now_le_sampleInputs_now s)⟩

end Sys2Proof.Proofs

/-! SUPPORT. What the decoder gives for each range of register bytes, that records and messages encode and decode to one
another, and the obligations on the encoding (spec 30_encoding.md). -/

namespace Sys2Proof

/-! ### The three fields of a record -/

@[simp] theorem recordClock_append (k : Tick) (r v : Byte) : recordClock (k ++ r ++ v) = k :=
  (BitVec.extractLsb'_append_eq_of_le (by decide)).trans BitVec.extractLsb'_append_eq_left

@[simp] theorem recordRegister_append (k : Tick) (r v : Byte) : recordRegister (k ++ r ++ v) = r :=
  (BitVec.extractLsb'_append_eq_of_le (by decide)).trans BitVec.extractLsb'_append_eq_right

@[simp] theorem recordValue_append (k : Tick) (r v : Byte) : recordValue (k ++ r ++ v) = v :=
  BitVec.extractLsb'_append_eq_right

/-- The three fields cover the record (R71). -/
theorem recordFields_append (w : Rec) : recordClock w ++ recordRegister w ++ recordValue w = w := by
  have hupper : recordClock w ++ recordRegister w = w.extractLsb' 8 72 :=
    BitVec.extractLsb'_append_extractLsb'_eq_extractLsb' rfl
  rw [hupper]
  exact (BitVec.extractLsb'_append_extractLsb'_eq_extractLsb' rfl).trans BitVec.extractLsb'_eq_self

/-! ### The ten bytes of a record -/

theorem encodeRecord_recordFields (w : Rec) :
    encodeRecord (recordClock w) (recordRegister w) (recordValue w) = recordBytes w := by
  rw [encodeRecord, recordFields_append]

/-- Ten bytes are ten digits to base 256, and the digits of a number are unique: no two byte lists share a record. -/
theorem recordOfBytes_injective {as bs : List Byte} (ha : as.length = 10) (hb : bs.length = 10)
    (h : recordOfBytes as = recordOfBytes bs) : as = bs := by
  have hdigit (cs : List Byte) : ∀ d ∈ cs.reverse.map BitVec.toNat, d < 256 := by
    intro d hd
    obtain ⟨c, -, rfl⟩ := List.mem_map.mp hd
    exact c.isLt
  have hnumber {cs : List Byte} (hc : cs.length = 10) :
      (recordOfBytes cs).toNat = Nat.ofDigits 256 (cs.reverse.map BitVec.toNat) := by
    rw [recordOfBytes_toNat]
    apply Nat.mod_eq_of_lt
    simpa [hc] using Nat.ofDigits_lt_base_pow_length (by decide) (hdigit cs)
  have hdigits : as.reverse.map BitVec.toNat = bs.reverse.map BitVec.toNat := by
    apply Nat.ofDigits_inj_of_len_eq (b := 256) (by decide) (by simp [ha, hb]) (hdigit as) (hdigit bs)
    rw [← hnumber ha, ← hnumber hb, h]
  exact List.reverse_injective (List.map_injective_iff.mpr (fun _ _ => BitVec.eq_of_toNat_eq) hdigits)

/-- No bit of ten bytes is lost in their record (R50, R71). -/
theorem recordBytes_recordOfBytes {bs : List Byte} (h : bs.length = 10) : recordBytes (recordOfBytes bs) = bs :=
  recordOfBytes_injective rfl h (recordOfBytes_recordBytes _)

theorem decode_of_length_ten {bs : List Byte} (h : bs.length = 10) :
    decode bs = .ok (decodeRecord (recordOfBytes bs)) :=
  match bs, h with
  | [_, _, _, _, _, _, _, _, _, _], _ => rfl

/-- The bytes of three fields decode by the register byte alone (R79, R80). -/
theorem decode_encodeRecord (k : Tick) (r v : Byte) : decode (encodeRecord k r v) = .ok (decodeEvent k r v) := by
  rw [decode_of_length_ten rfl, encodeRecord, recordOfBytes_recordBytes, decodeRecord]
  simp

/-! ### The rows of invalid events by range (R80, R86) -/

/-- A mask of all bits from `n` on clears the low `n` bits. -/
theorem and_allOnes_shiftLeft {w : Nat} (v : BitVec w) (n : Nat) : v &&& (BitVec.allOnes w <<< n) = (v >>> n) <<< n := by
  ext j hj
  by_cases hlow : j < n
  · simp [hlow]
  · have hback : n + (j - n) = j := by omega
    simp [hlow, hj, hback]

/-- A row's mask of all bits from `n` on compares what is left when the low `n` bits are cleared. -/
theorem matchesRow_highMask (v pattern : Byte) (n : Nat) :
    matchesRow v (BitVec.allOnes 8 <<< n) pattern = true ↔ v.toNat / 2 ^ n * 2 ^ n = pattern.toNat := by
  have hfits : v.toNat / 2 ^ n * 2 ^ n < 2 ^ 8 := (Nat.div_mul_le_self _ _).trans_lt v.isLt
  rw [matchesRow, beq_iff_eq, and_allOnes_shiftLeft, ← BitVec.toNat_inj]
  simp only [BitVec.toNat_shiftLeft, BitVec.toNat_ushiftRight, Nat.shiftLeft_eq, Nat.shiftRight_eq_div_pow,
    Nat.mod_eq_of_lt hfits]

theorem matchesRow_invalid0E (r : Byte) : matchesRow r 0xFE 0x0E = true ↔ 14 ≤ r.toNat ∧ r.toNat ≤ 15 :=
  (matchesRow_highMask r 0x0E 1).trans (by simp; omega)

theorem matchesRow_invalid10 (r : Byte) : matchesRow r 0xF0 0x10 = true ↔ 16 ≤ r.toNat ∧ r.toNat ≤ 31 :=
  (matchesRow_highMask r 0x10 4).trans (by simp; omega)

theorem matchesRow_invalid20 (r : Byte) : matchesRow r 0xE0 0x20 = true ↔ 32 ≤ r.toNat ∧ r.toNat ≤ 63 :=
  (matchesRow_highMask r 0x20 5).trans (by simp; omega)

theorem matchesRow_invalid40 (r : Byte) : matchesRow r 0xC0 0x40 = true ↔ 64 ≤ r.toNat ∧ r.toNat ≤ 127 :=
  (matchesRow_highMask r 0x40 6).trans (by simp; omega)

theorem matchesRow_invalid80 (r : Byte) : matchesRow r 0x80 0x80 = true ↔ 128 ≤ r.toNat := by
  have hr := r.isLt
  exact (matchesRow_highMask r 0x80 7).trans (by simp; omega)

/-! ### What a register byte selects -/

/-- A register byte up to 13 selects a slot write (R79). -/
theorem decodeEvent_write {k : Tick} {r v : Byte} (h : r.toNat ≤ 13) : (decodeEvent k r v).writeClock? = some k := by
  unfold decodeEvent
  iterate 14 refine iteInduction (motive := fun i : Instr => i.writeClock? = some k) (fun _ => rfl) fun _ => ?_
  exfalso
  bv_omega

/-- From 14 on the ranges of the table follow one another without a gap (R80, R86). -/
theorem decodeEvent_invalid {k : Tick} {r v : Byte} (h : 14 ≤ r.toNat) :
    decodeEvent k r v =
      if r.toNat ≤ 15 then .invalid0E k r v else if r.toNat ≤ 31 then .invalid10 k r v
      else if r.toNat ≤ 63 then .invalid20 k r v else if r.toNat ≤ 127 then .invalid40 k r v
      else .invalid80 k r v := by
  unfold decodeEvent
  iterate 14 rw [if_neg (by bv_omega)]
  simp only [matchesRow_invalid0E, matchesRow_invalid10, matchesRow_invalid20, matchesRow_invalid40]
  iterate 4 refine ite_congr (propext (by omega)) (fun _ => rfl) fun _ => ?_
  rfl

theorem decodeEvent_invalid0E {k : Tick} {r v : Byte} (h : 14 ≤ r.toNat ∧ r.toNat ≤ 15) :
    decodeEvent k r v = .invalid0E k r v := by
  rw [decodeEvent_invalid (by omega), if_pos (by omega)]

theorem decodeEvent_invalid10 {k : Tick} {r v : Byte} (h : 16 ≤ r.toNat ∧ r.toNat ≤ 31) :
    decodeEvent k r v = .invalid10 k r v := by
  rw [decodeEvent_invalid (by omega), if_neg (by omega), if_pos (by omega)]

theorem decodeEvent_invalid20 {k : Tick} {r v : Byte} (h : 32 ≤ r.toNat ∧ r.toNat ≤ 63) :
    decodeEvent k r v = .invalid20 k r v := by
  rw [decodeEvent_invalid (by omega), if_neg (by omega), if_neg (by omega), if_pos (by omega)]

theorem decodeEvent_invalid40 {k : Tick} {r v : Byte} (h : 64 ≤ r.toNat ∧ r.toNat ≤ 127) :
    decodeEvent k r v = .invalid40 k r v := by
  rw [decodeEvent_invalid (by omega), if_neg (by omega), if_neg (by omega), if_neg (by omega), if_pos (by omega)]

theorem decodeEvent_invalid80 {k : Tick} {r v : Byte} (h : 128 ≤ r.toNat) :
    decodeEvent k r v = .invalid80 k r v := by
  rw [decodeEvent_invalid (by omega), if_neg (by omega), if_neg (by omega), if_neg (by omega), if_neg (by omega)]

/-- A record is a slot write exactly when its register byte is at most 13 (R79, R80). -/
theorem decodeEvent_writeClock_isSome (k : Tick) (r v : Byte) :
    (decodeEvent k r v).writeClock?.isSome = true ↔ r.toNat ≤ 13 := by
  refine ⟨fun hwrite => ?_, fun hlow => by rw [decodeEvent_write hlow]; rfl⟩
  by_contra hhigh
  rw [decodeEvent_invalid (by omega)] at hwrite
  split_ifs at hwrite <;> cases hwrite

/-- The row a register byte selects has that register byte (R80). -/
theorem decodeEvent_wf (k : Tick) (r v : Byte) : (decodeEvent k r v).wf = true := by
  unfold decodeEvent
  iterate 14 refine iteInduction (motive := fun i : Instr => i.wf = true) (fun _ => rfl) fun _ => ?_
  iterate 4 refine iteInduction (motive := fun i : Instr => i.wf = true) id fun _ => ?_
  simp only [matchesRow_invalid0E, matchesRow_invalid10, matchesRow_invalid20, matchesRow_invalid40] at *
  exact (matchesRow_invalid80 r).mpr (by bv_omega)

/-- The row a register byte selects encodes to the fields it was decoded from (R71). -/
theorem encode_decodeEvent (k : Tick) (r v : Byte) : encode (decodeEvent k r v) = encodeRecord k r v := by
  unfold decodeEvent
  iterate 14 refine iteInduction (motive := fun i => encode i = encodeRecord k r v) (fun h => by rw [h]; rfl) fun _ => ?_
  iterate 4 refine iteInduction (motive := fun i => encode i = encodeRecord k r v) (fun _ => rfl) fun _ => ?_
  rfl

/-! ### From rows to bytes and back -/

/-- A well-formed invalid event has the register byte that selects it; a slot write selects itself, and so does the address
of a message. -/
theorem decode_encode {i : Instr} (h : i.wf = true) : decode (encode i) = .ok i := by
  cases i with
  | wr0 k v | wr1 k v | wr2 k v | wr3 k v | wr4 k v | wr5 k v | wr6 k v | wr7 k v
  | wr8 k v | wr9 k v | wr10 k v | wr11 k v | wr12 k v | wr13 k v => exact decode_encodeRecord k _ v
  | invalid0E k r v =>
    exact (decode_encodeRecord k r v).trans (congrArg _ (decodeEvent_invalid0E ((matchesRow_invalid0E r).mp h)))
  | invalid10 k r v =>
    exact (decode_encodeRecord k r v).trans (congrArg _ (decodeEvent_invalid10 ((matchesRow_invalid10 r).mp h)))
  | invalid20 k r v =>
    exact (decode_encodeRecord k r v).trans (congrArg _ (decodeEvent_invalid20 ((matchesRow_invalid20 r).mp h)))
  | invalid40 k r v =>
    exact (decode_encodeRecord k r v).trans (congrArg _ (decodeEvent_invalid40 ((matchesRow_invalid40 r).mp h)))
  | invalid80 k r v =>
    exact (decode_encodeRecord k r v).trans (congrArg _ (decodeEvent_invalid80 ((matchesRow_invalid80 r).mp h)))
  | msgAFreqHi p | msgAFreqLo p | msgBFreqHi p | msgBFreqLo p | msgCFreqHi p | msgCFreqLo p | msgNoise p | msgMixer p
  | msgALevel p | msgBLevel p | msgCLevel p | msgEnvFreqHi p | msgEnvFreqMid p | msgEnvFreqLo p | msgEnvShape p =>
    exact if_pos h
  | msgLatchEnable | msgLatchDisable | msgLatchInit => rfl

/-- The record of any ten bytes encodes to those bytes (R71, R80). -/
theorem encode_decodeRecord (w : Rec) : encode (decodeRecord w) = recordBytes w :=
  (encode_decodeEvent _ _ _).trans (encodeRecord_recordFields w)

end Sys2Proof

namespace Sys2Proof.Machine

open Sys2Proof

/-! ### Messages on the wire -/

/-- With the default addresses and latch payloads a message is what its row encodes to (R75, R76, R85). -/
theorem encode_of_onWire_default {i : Instr} {m : Message} (h : onWire Config.default i = some m) :
    encode i = [m.address, m.payload] := by
  cases i <;> cases h
  all_goals rfl

/-- A Send whose listed answer is `ok` appends its message and consumes the answer (R12). -/
theorem sendThen_accepted {m : Message} {after : State → State} {s : State} {rest : List Bool}
    (hopen : s.sinkOpen = true) (hanswers : s.answers = true :: rest) :
    sendThen m after s = .next (after { s with out := s.out ++ [m], answers := rest }) := by
  rw [sendThen_ok hopen (by simp [sinkAccepts, hanswers])]
  simp [accept, hanswers]

/-- A row that is one Send to an address of the configuration, with nothing to follow, is a field message (R161). -/
theorem fieldMessageIsSent_of_exec {mk : Byte → Instr} {address : Addr → Byte}
    (h : ∀ p s, exec (mk p) s = send ⟨address s.config.addr, p⟩ s) : Claims.FieldMessageIsSent mk address :=
  fun p s _ hopen hanswers => (h p s).trans (sendThen_accepted hopen hanswers)

/-! ### Field values by arithmetic (R78) -/

theorem noiseValue_eq_mod (v : Byte) : noiseValue v = v.toNat % 32 := Nat.and_two_pow_sub_one_eq_mod v.toNat 5

theorem mixerValue_eq_mod (v : Byte) : mixerValue v = v.toNat % 64 := Nat.and_two_pow_sub_one_eq_mod v.toNat 6

theorem levelValue_eq_mod (v : Byte) : levelValue v = v.toNat % 32 := Nat.and_two_pow_sub_one_eq_mod v.toNat 5

theorem shapeValue_eq_mod (v : Byte) : shapeValue v = v.toNat % 16 := Nat.and_two_pow_sub_one_eq_mod v.toNat 4

/-- The low byte takes none of the bits of the high byte. -/
theorem byte_or_shiftLeft (lo : Byte) (hi : Nat) : lo.toNat ||| (hi <<< 8) = lo.toNat + 256 * hi := by
  rw [Nat.or_comm, ← Nat.shiftLeft_add_eq_or_of_lt lo.isLt, Nat.shiftLeft_eq]
  omega

theorem envValue_eq_envelope (lo hi : Byte) : envValue lo hi = Claims.envelope lo hi := byte_or_shiftLeft lo hi.toNat

theorem freqValue_eq_frequency (lo hi : Byte) : freqValue lo hi = Claims.frequency lo hi := by
  have hmask : (hi.toNat <<< 8) &&& 0xF00 = (hi.toNat % 16) <<< 8 := by
    rw [← Nat.and_two_pow_sub_one_eq_mod hi.toNat 4, Nat.shiftLeft_and_distrib]
    rfl
  rw [freqValue, hmask, byte_or_shiftLeft]

end Sys2Proof.Machine

namespace Sys2Proof.Proofs

open Sys2Proof Sys2Proof.Machine

/-- Settles O1, by the rows of the table. -/
theorem decodeOfEncodeGivesEveryRowBack : Obligations.DecodeOfEncodeGivesEveryRowBack :=
  fun _ hwf => decode_encode hwf

/-- Settles O2: the row is the one the record's register byte selects. -/
theorem anyTenBytesAreOneRecord : Obligations.AnyTenBytesAreOneRecord := by
  intro bs hlen
  have hencode : encode (decodeRecord (recordOfBytes bs)) = bs :=
    (encode_decodeRecord _).trans (recordBytes_recordOfBytes hlen)
  exact ⟨_, decode_of_length_ten hlen, decodeEvent_wf _ _ _, decodeRecord_isMessage _, hencode⟩

/-- Settles O7: the row is one Send of what it stands for on the wire, which is its word of the table. -/
theorem messageRowsSendTheirTableWord : Obligations.MessageRowsSendTheirTableWord := by
  intro i s rest hmsg hconfig hopen hanswers
  obtain ⟨m, hwire, hsend⟩ := exec_message hmsg s
  rw [hconfig] at hwire
  refine ⟨m.address, m.payload, _, encode_of_onWire_default hwire, hsend.trans (sendThen_accepted hopen hanswers), ?_⟩
  simp

/-- Settles O14: it is what the queue of a session always holds. -/
theorem flushQueuesOnlyTableRows : Obligations.FlushQueuesOnlyTableRows := sendable_flushMessages

/-- Settles O26: each row is one Send to its address. -/
theorem fieldMessagesAreSent : Obligations.FieldMessagesAreSent := by
  refine ⟨?_, ?_, ?_, ?_, ?_, ?_, ?_, ?_, ?_, ?_, ?_, ?_, ?_, ?_, ?_⟩
  all_goals exact fieldMessageIsSent_of_exec fun _ _ => rfl

/-- Settles O4: the register byte alone selects the row. -/
theorem registerByteSelectsTheSlotWrite : Obligations.RegisterByteSelectsTheSlotWrite := by
  intro w k r v
  have hrow {n : Byte} (hr : r = n) : decodeRecord w = decodeEvent k n v := by rw [← hr]; rfl
  exact ⟨hrow, hrow, hrow, hrow, hrow, hrow, hrow, hrow, hrow, hrow, hrow, hrow, hrow, hrow,
    decodeEvent_writeClock_isSome k r v⟩

/-- Settles O5, by the range the register byte lies in. -/
theorem otherRegistersDecodeAsInvalid : Obligations.OtherRegistersDecodeAsInvalid :=
  fun _ => ⟨decodeEvent_invalid0E, decodeEvent_invalid10, decodeEvent_invalid20, decodeEvent_invalid40,
    decodeEvent_invalid80⟩

/-- Settles O6: each word is the encoding of its row. -/
theorem writtenOutWordsDecode : Obligations.WrittenOutWordsDecode :=
  ⟨decode_encode (i := .wr0 72623859790382856 0xAA) rfl, decode_encode (i := .invalid0E 9 14 0x77) rfl,
    decode_encode (i := .invalid80 5 200 1) rfl, decode_encode (i := .invalid80 18446744073709551615 255 255) rfl,
    decode_encode (i := .msgAFreqLo 0x50) rfl, decode_encode (i := .msgLatchInit) rfl⟩

/-- Settles O8: each mask keeps the low bits, and the high slot stands eight bits above the low one. -/
theorem fieldValuesAreAssembledFromSlots : Obligations.FieldValuesAreAssembledFromSlots :=
  fun _ lo hi v => ⟨freqValue_eq_frequency _ _, freqValue_eq_frequency _ _, freqValue_eq_frequency _ _,
    noiseValue_eq_mod v, mixerValue_eq_mod v, levelValue_eq_mod v, envValue_eq_envelope lo hi, shapeValue_eq_mod v⟩

/-- Settles O60: both sides are the same closed list, and its checks compute. -/
theorem defaultAddressesAreTheTable : Obligations.DefaultAddressesAreTheTable :=
  ⟨rfl, by decide, by decide⟩

end Sys2Proof.Proofs

/-! SUPPORT. What the fourteen slot writes and the five invalid events do and leave alone, what the event loop runs next,
and the obligations on fetching events and writing slots (spec 40_event_fetch_and_writes.md). -/

namespace Sys2Proof.Machine

open Sys2Proof

/-! ### The event loop (R92) -/

/-- A step that settles answers the state it settles in. -/
theorem step_of_settle {s t : State} (h : nextAction s = .settle t) : step s = .next t := by
  simp [step, h]

/-- In RUN with no message left, the inputs act and the event loop goes on. -/
theorem nextAction_eventLoop {s : State} (hphase : s.phase = .run) (hqueue : s.outbox = []) :
    nextAction s = eventLoop (sampleInputs s) := by
  simp [nextAction, sendOrAdvance, advance, hphase, hqueue]

/-- The record in progress goes before the next one. -/
theorem eventLoop_inProgress {s : State} {i : Instr} (h : s.stage = .gate i ∨ s.stage = .flush i) :
    eventLoop s = .run i s := by
  obtain hgate | hflush := h
  · simp [eventLoop, hgate]
  · simp [eventLoop, hflush]

/-- With no record in progress and no interrupt pending, the next record is fetched. -/
theorem eventLoop_fetch {s : State} (hstage : s.stage = .fetch) (hirq : s.irqPending = false) :
    eventLoop s = fetch s := by
  simp [eventLoop, hstage, hirq]

/-- In RUN with nothing in progress and no interrupt pending, the step begins with FETCH. -/
theorem nextAction_fetch {s : State} (hphase : s.phase = .run) (hqueue : s.outbox = []) (hstage : s.stage = .fetch)
    (hirq : (sampleInputs s).irqPending = false) : nextAction s = fetch (sampleInputs s) :=
  (nextAction_eventLoop hphase hqueue).trans (eventLoop_fetch (s := sampleInputs s) hstage hirq)

/-! ### FETCH (R91) -/

/-- A byte that is there to be read lies below the end of the trace (R12). -/
theorem Memory.lt_of_read {m : Memory} {a : Nat} {b : Byte} (h : m.read a = some b) : a < m.len := by
  by_contra hpast
  rw [Memory.read, if_neg hpast] at h
  cases h

/-- Where every byte of a nonempty list can be read, `MemRead` answers the list (R12). -/
theorem memRead_of_read {m : Memory} {addr : Nat} {bs : List Byte} (hne : 0 < bs.length)
    (h : ∀ k < bs.length, m.read (addr + k) = bs[k]?) : memRead m addr bs.length = .bytes bs := by
  have hread (k : Nat) (hk : k < bs.length) : m.read (addr + k) = some bs[k] :=
    (h k hk).trans (List.getElem?_eq_getElem hk)
  have hlast : addr + (bs.length - 1) < m.len := Memory.lt_of_read (hread _ (by omega))
  rw [memRead_whole m addr bs.length (by omega)]
  refine congrArg ReadResult.bytes (List.ext_getElem (by simp) fun k _ hk => ?_)
  have hcell := (Memory.read_of_lt (Memory.lt_of_read (hread k hk))).symm.trans (hread k hk)
  simpa using hcell

theorem fetch_whole {s : State} {bs : List Byte} (h : memRead s.trace (10 * s.pc) 10 = .bytes bs) :
    fetch s = .run (decodeRecord (recordOfBytes bs)) (pastRecord s) := by
  simp [fetch, h]

/-- With no byte left at the record index the stream is complete (R112). -/
theorem fetch_end {s : State} (h : s.trace.len ≤ 10 * s.pc) : fetch s = .settle (completeStream s) := by
  have hread : memRead s.trace (10 * s.pc) 10 = .short 0 := by
    rw [memRead_short _ _ _ (by omega), Nat.sub_eq_zero_of_le h]
  simp [fetch, hread]

/-! ### The wait of GATE -/

/-- With no interrupt pending the wait only keeps the record (R121). -/
theorem waitInGate_quiet {s : State} (i : Instr) (h : s.irqPending = false) :
    waitInGate i s = { s with stage := .gate i } := by
  simp [waitInGate, h]

@[simp] theorem raise_sinkOpen (e : Condition) (s : State) : (raise e s).sinkOpen = s.sinkOpen := by simp [raise_frame]

@[simp] theorem raise_irqPending (e : Condition) (s : State) : (raise e s).irqPending = s.irqPending := by
  simp [raise_frame]

@[simp] theorem raise_arrivals (e : Condition) (s : State) : (raise e s).arrivals = s.arrivals := by simp [raise_frame]

@[simp] theorem raise_answers (e : Condition) (s : State) : (raise e s).answers = s.answers := by simp [raise_frame]

@[simp] theorem endWithoutFlush_warnCount (s : State) : (endWithoutFlush s).warnCount = s.warnCount := by
  unfold endWithoutFlush; split <;> simp

@[simp] theorem endWithoutFlush_truncated (s : State) : (endWithoutFlush s).truncated = s.truncated := by
  unfold endWithoutFlush; split <;> simp

@[simp] theorem waitInGate_sinkOpen (i : Instr) (s : State) : (waitInGate i s).sinkOpen = s.sinkOpen := by
  unfold waitInGate; split <;> simp

@[simp] theorem waitInGate_irqPending (i : Instr) (s : State) : (waitInGate i s).irqPending = s.irqPending := by
  unfold waitInGate; split <;> simp

@[simp] theorem waitInGate_warnCount (i : Instr) (s : State) : (waitInGate i s).warnCount = s.warnCount := by
  unfold waitInGate; split <;> simp [raise_interrupt]

@[simp] theorem waitInGate_truncated (i : Instr) (s : State) : (waitInGate i s).truncated = s.truncated := by
  unfold waitInGate; split <;> simp [raise_interrupt]

@[simp] theorem waitInGate_arrivals (i : Instr) (s : State) : (waitInGate i s).arrivals = s.arrivals := by
  unfold waitInGate; split <;> simp

@[simp] theorem waitInGate_answers (i : Instr) (s : State) : (waitInGate i s).answers = s.answers := by
  unfold waitInGate; split <;> simp

@[simp] theorem waitInGate_out (i : Instr) (s : State) : (waitInGate i s).out = s.out := by
  unfold waitInGate; split <;> simp

/-! ### The slot writes -/

/-- Every clock and value of the row is one accepted event that writes this slot (R96). -/
def WritesSlot (mk : Tick → Byte → Instr) (slot : Fin 16) : Prop :=
  ∀ (k : Tick) (v : Byte) (s : State), exec (mk k v) s = writeEvent (mk k v) slot k v s

/-- What holds of every row that writes a slot holds of `WR0` to `WR13`, each with the slot of its number (R97 to R110). -/
theorem slotWrites_all {P : (Tick → Byte → Instr) → Fin 16 → Prop} (h : ∀ {mk slot}, WritesSlot mk slot → P mk slot) :
    P .wr0 0 ∧ P .wr1 1 ∧ P .wr2 2 ∧ P .wr3 3 ∧ P .wr4 4 ∧ P .wr5 5 ∧ P .wr6 6 ∧ P .wr7 7 ∧ P .wr8 8 ∧ P .wr9 9 ∧
      P .wr10 10 ∧ P .wr11 11 ∧ P .wr12 12 ∧ P .wr13 13 := by
  refine ⟨?_, ?_, ?_, ?_, ?_, ?_, ?_, ?_, ?_, ?_, ?_, ?_, ?_, ?_⟩
  all_goals exact h fun _ _ _ => rfl

theorem slotWriteCompletes_of_writesSlot {mk : Tick → Byte → Instr} {slot : Fin 16} (h : WritesSlot mk slot) :
    Claims.SlotWriteCompletes mk slot := by
  intro k v s hready
  rw [h]
  obtain hflush | ⟨hflush, hdue, hmerge⟩ := hready
  · exact writeEvent_afterFlush hflush
  · have hboundary : boundary k s = false := Bool.eq_false_iff.mpr fun hb => by
      obtain ⟨hvalid, hclock⟩ := boundary_eq_true.mp hb
      obtain hfirst | hsame := hmerge
      · rw [hfirst] at hvalid; cases hvalid
      · exact hclock hsame.symm
    exact writeEvent_merge hflush (tooEarly_eq_false.mpr hdue) hboundary

theorem boundaryFlushesFirst_of_writesSlot {mk : Tick → Byte → Instr} {slot : Fin 16} (h : WritesSlot mk slot) :
    Claims.BoundaryFlushesFirst mk := by
  intro k v s hflush hdue hvalid hclock
  rw [h]
  exact writeEvent_boundary hflush (tooEarly_eq_false.mpr hdue) (boundary_eq_true.mpr ⟨hvalid, hclock.symm⟩)

/-- A slot write leaves every other slot of the pending bank alone (R96). -/
theorem applyWrite_other_slot {slot j : Fin 16} (k : Tick) (v : Byte) (s : State) (h : j ≠ slot) :
    (applyWrite slot k v s).x[j] = s.x[j] :=
  Vector.getElem_set_ne slot.isLt j.isLt (Fin.val_ne_of_ne h.symm)

/-- Everything a slot write can do with its next state. -/
theorem WritesSlot.next_cases {mk : Tick → Byte → Instr} {slot : Fin 16} {k : Tick} {v : Byte} {s t : State}
    (h : WritesSlot mk slot) (hexec : exec (mk k v) s = .next t) :
    t = applyWrite slot k v s ∨ t = waitInGate (mk k v) s ∨ t = startEventFlush (mk k v) s := by
  rw [h] at hexec
  obtain ⟨-, hw⟩ | ⟨-, -, hw⟩ | ⟨-, -, -, hw⟩ | ⟨-, -, -, hw⟩ := writeEvent_cases (mk k v) slot k v s <;>
    rw [hw] at hexec <;> injection hexec with hexec
  · exact .inl hexec.symm
  · exact .inr (.inl hexec.symm)
  · exact .inr (.inr hexec.symm)
  · exact .inl hexec.symm

theorem slotWriteFrame_of_writesSlot {mk : Tick → Byte → Instr} {slot : Fin 16} (h : WritesSlot mk slot) :
    Claims.SlotWriteFrame mk slot := by
  intro k v s t hexec
  obtain rfl | rfl | rfl := h.next_cases hexec
  · exact ⟨by simp, fun _ => rfl, fun _ => ⟨rfl, fun j hj => applyWrite_other_slot k v s hj, rfl, rfl, rfl, rfl⟩⟩
  · refine ⟨by simp, fun _ => by rw [waitInGate_trace], fun hirq => ?_⟩
    rw [waitInGate_quiet _ hirq]
    exact ⟨rfl, fun _ _ => rfl, rfl, rfl, rfl, rfl⟩
  · exact ⟨by simp, fun _ => rfl, fun _ => ⟨rfl, fun _ _ => rfl, rfl, rfl, rfl, rfl⟩⟩

/-! ### The invalid events -/

/-- An invalid event waits, or is dropped with a warning; neither touches anything that a session goes on with (R94). -/
theorem invalidFrame_of_dropEvent {mk : Tick → Byte → Byte → Instr}
    (h : ∀ k r v s, exec (mk k r v) s = dropEvent (mk k r v) k r s) : Claims.InvalidFrame mk := by
  intro k r v s t hexec hirq
  rw [h] at hexec
  obtain ⟨-, -, hd⟩ | ⟨-, hd⟩ := dropEvent_cases (mk k r v) k r s <;> rw [hd] at hexec <;>
    injection hexec with hexec <;> subst hexec
  · rw [waitInGate_quiet _ hirq]
    exact ⟨rfl, rfl, rfl, rfl, rfl, rfl, rfl, rfl, rfl, rfl, rfl, rfl, rfl, fun _ => rfl⟩
  · exact ⟨rfl, rfl, rfl, rfl, rfl, rfl, rfl, rfl, rfl, rfl, rfl, rfl, rfl, fun _ => rfl⟩

/-! ### A FLUSH whose messages are all accepted -/

/-- The next `n` Sends are accepted (R12). -/
def AcceptsNext (n : Nat) (s : State) : Prop := ∀ b ∈ s.answers.take n, b = true

theorem acceptsNext_succ {n : Nat} {s : State} (h : AcceptsNext (n + 1) s) :
    sinkAccepts s = true ∧ ∀ b ∈ s.answers.tail.take n, b = true := by
  unfold AcceptsNext at h
  unfold sinkAccepts
  cases hanswers : s.answers <;> simp_all

/-- What an accepted message leaves as it was, whatever the inputs do before it: all but the committed bank, the queue, the
inputs and `out`. -/
structure SendKeeps (s t : State) : Prop where
  x : t.x = s.x
  prevValid : t.prevValid = s.prevValid
  prevClock : t.prevClock = s.prevClock
  sinkOpen : t.sinkOpen = s.sinkOpen
  phase : t.phase = s.phase
  stage : t.stage = s.stage
  config : t.config = s.config
  pc : t.pc = s.pc
  diag : t.diag = s.diag
  exitCause : t.exitCause = s.exitCause

theorem SendKeeps.trans {s u t : State} (h₁ : SendKeeps s u) (h₂ : SendKeeps u t) : SendKeeps s t where
  x := h₂.x.trans h₁.x
  prevValid := h₂.prevValid.trans h₁.prevValid
  prevClock := h₂.prevClock.trans h₁.prevClock
  sinkOpen := h₂.sinkOpen.trans h₁.sinkOpen
  phase := h₂.phase.trans h₁.phase
  stage := h₂.stage.trans h₁.stage
  config := h₂.config.trans h₁.config
  pc := h₂.pc.trans h₁.pc
  diag := h₂.diag.trans h₁.diag
  exitCause := h₂.exitCause.trans h₁.exitCause

/-- A FLUSH stays in progress from message to message. -/
theorem SendKeeps.flushing {s t : State} (h : SendKeeps s t) : Machine.flushing t = Machine.flushing s := by
  simp only [Machine.flushing, inEventFlush, h.phase, h.stage]

/-- What follows an accepted Send touches the committed bank at most (R143). -/
theorem afterSend_onlyCommits (i : Instr) (s : State) : ∃ c, afterSend i s = { s with c := c } := by
  by_cases hi : i = .msgLatchDisable
  · rw [hi, afterSend_latchDisable, commitFlush]
    split
    · exact ⟨s.x, rfl⟩
    · exact ⟨s.c, rfl⟩
  · rw [afterSend_other hi]
    exact ⟨s.c, rfl⟩

/-- In a FLUSH a step with a message left and the sink answering `ok` sends that message; after an end-update the whole
pending bank is committed (R143). -/
theorem step_inFlush_accepted {s : State} {i : Instr} {rest : List Instr} (hflush : flushing s = true)
    (hopen : s.sinkOpen = true) (hqueue : s.outbox = i :: rest) (hmsg : i.isMessage = true)
    (hanswer : sinkAccepts s = true) :
    ∃ u, step s = .next u ∧ SendKeeps s u ∧ u.outbox = rest ∧ u.answers = s.answers.tail ∧
      u.out = s.out ++ wire s.config [i] ∧ (i = .msgLatchDisable → u.c = s.x) := by
  obtain ⟨hoff, hdone⟩ : s.phase ≠ .off ∧ s.phase ≠ .done := by
    obtain hphase | hphase := phase_of_flushing hflush <;> simp [hphase]
  have hstep := Proofs.stepRunsTheNextMessage s i rest hoff hdone hqueue
  obtain ⟨m, hwire, hsend⟩ := exec_message hmsg (withOutbox rest (sampleInputs s))
  have hnext := hstep.trans (hsend.trans (sendThen_ok hopen hanswer))
  refine ⟨_, hnext, ?_⟩
  have hout : wire s.config [i] = [m] := List.filterMap_cons_some hwire
  rw [hout]
  obtain ⟨c, hc⟩ := afterSend_onlyCommits i (accept m (withOutbox rest (sampleInputs s)))
  refine ⟨?_, by simp [hc], by simp [hc], by simp, fun hi => ?_⟩
  · rw [hc]
    exact ⟨rfl, rfl, rfl, rfl, rfl, rfl, rfl, rfl, rfl, rfl⟩
  · have hcommit : flushing (accept m (withOutbox rest (sampleInputs s))) = true := hflush
    subst hi
    simp [hcommit]

/-- A run goes on from the state its first `m` steps answer. -/
theorem run_add {m : Nat} {s u : State} (h : Sys2Proof.core.run m s = .next u) (n : Nat) :
    Sys2Proof.core.run (m + n) s = Sys2Proof.core.run n u := by
  induction m generalizing s with
  | zero =>
    cases h
    rw [Nat.zero_add]
  | succ m ih =>
    cases hstep : step s with
    | next w =>
      rw [run_succ hstep] at h
      rw [Nat.add_right_comm, run_succ hstep, ih h]
    | fault r => simp [Host.Core.run, show Sys2Proof.core.step s = .fault r from hstep] at h
    | refused r => simp [Host.Core.run, show Sys2Proof.core.step s = .refused r from hstep] at h

/-- A FLUSH in progress whose remaining messages are accepted sends them all; its end-update, the last of them, commits
the pending bank, which no message has changed (R130, R143). -/
theorem run_inFlush {s : State} {rows : List Instr} (hflush : flushing s = true) (hopen : s.sinkOpen = true)
    (hqueue : s.outbox = rows ++ [.msgLatchDisable]) (hmsgs : ∀ i ∈ s.outbox, i.isMessage = true)
    (hanswers : AcceptsNext s.outbox.length s) :
    ∃ t, Sys2Proof.core.run s.outbox.length s = .next t ∧ SendKeeps s t ∧ t.outbox = [] ∧ t.c = s.x ∧
      t.out = s.out ++ wire s.config s.outbox := by
  induction rows generalizing s with
  | nil =>
    rw [List.nil_append] at hqueue
    rw [hqueue] at hmsgs hanswers ⊢
    obtain ⟨hanswer, -⟩ := acceptsNext_succ hanswers
    obtain ⟨t, hstep, hkeeps, hout, -, hsent, hcommit⟩ := step_inFlush_accepted hflush hopen hqueue rfl hanswer
    exact ⟨t, run_succ hstep 0, hkeeps, hout, hcommit rfl, hsent⟩
  | cons i rows ih =>
    rw [List.cons_append] at hqueue
    rw [hqueue] at hmsgs hanswers ⊢
    obtain ⟨hmsg, hrest⟩ := List.forall_mem_cons.mp hmsgs
    obtain ⟨hanswer, hlater⟩ := acceptsNext_succ hanswers
    obtain ⟨u, hstep, hkeeps, hqueue', hanswers', hsent, -⟩ := step_inFlush_accepted hflush hopen hqueue hmsg hanswer
    obtain ⟨t, hrun, hkeeps', hdone, hcommit, hsent'⟩ :=
      ih (hkeeps.flushing.trans hflush) (hkeeps.sinkOpen.trans hopen) hqueue' (hqueue' ▸ hrest)
        (by rw [AcceptsNext, hqueue', hanswers']; exact hlater)
    rw [hqueue'] at hrun hsent'
    refine ⟨t, (run_succ hstep _).trans hrun, hkeeps.trans hkeeps', hdone, hcommit.trans hkeeps.x, ?_⟩
    rw [hsent', hsent, hkeeps.config, List.append_assoc, wire, wire, wire, ← List.filterMap_append, List.singleton_append]

/-- A FLUSH ends with the end-update (R130). -/
theorem flushMessages_ends (cfg : Config) (x c : Bank) : ∃ rows, flushMessages cfg x c = rows ++ [.msgLatchDisable] :=
  ⟨_ :: _, rfl⟩

end Sys2Proof.Machine

namespace Sys2Proof.Proofs

open Sys2Proof Sys2Proof.Machine

/-- Settles O37: the record in progress goes before anything else the event loop does. -/
theorem stepResumesTheRecordInProgress : Obligations.StepResumesTheRecordInProgress := by
  intro s i hphase hqueue hstage
  apply step_of_run
  rw [nextAction_eventLoop hphase hqueue]
  exact eventLoop_inProgress hstage

/-- Settles O35: FETCH reads the ten bytes and decodes them. -/
theorem stepRunsTheFetchedRecord : Obligations.StepRunsTheFetchedRecord := by
  intro s bs i hphase hqueue hstage hirq hlen hbytes hdecode
  have hread : memRead s.trace (10 * s.pc) 10 = .bytes bs := by
    rw [← hlen]
    exact memRead_of_read (by omega) (by rwa [hlen])
  obtain rfl : decodeRecord (recordOfBytes bs) = i := Except.ok.inj ((decode_of_length_ten hlen).symm.trans hdecode)
  exact step_of_run ((nextAction_fetch hphase hqueue hstage hirq).trans (fetch_whole (s := sampleInputs s) hread))

/-- Settles O39: FETCH finds no byte, and the stream is complete (D4). -/
theorem endOfTraceStartsTheFinalFlush : Obligations.EndOfTraceStartsTheFinalFlush := by
  intro s hphase hqueue hstage hirq hend hflush
  have hcomplete : nextAction s = .settle (completeStream (sampleInputs s)) :=
    (nextAction_fetch hphase hqueue hstage hirq).trans (fetch_end (s := sampleInputs s) hend)
  rw [step_of_settle hcomplete, completeStream_flush (s := sampleInputs s) hflush]
  rfl

/-- Settles O21, by the branches of an accepted event that end with its write. -/
theorem slotWritesComplete : Obligations.SlotWritesComplete := slotWrites_all slotWriteCompletes_of_writesSlot

/-- Settles O22, by the branch of an accepted event at a boundary. -/
theorem boundaryQueuesTheFlushFirst : Obligations.BoundaryQueuesTheFlushFirst :=
  slotWrites_all (P := fun mk _ => Claims.BoundaryFlushesFirst mk) boundaryFlushesFirst_of_writesSlot

/-- Settles O32, by the three things a slot write can do. -/
theorem slotWritesLeaveTheRestAlone : Obligations.SlotWritesLeaveTheRestAlone :=
  slotWrites_all slotWriteFrame_of_writesSlot

/-- Settles O33: without an interrupt an invalid event waits or is dropped. -/
theorem invalidEventsLeaveTheRestAlone : Obligations.InvalidEventsLeaveTheRestAlone := by
  refine ⟨?_, ?_, ?_, ?_, ?_⟩
  all_goals exact invalidFrame_of_dropEvent fun _ _ _ _ => rfl

/-- From GATE the boundary starts the FLUSH, its messages are sent to the commit, and the record goes on with its write. -/
theorem boundaryEventRunsThrough_of_writesSlot {mk : Tick → Byte → Instr} {slot : Fin 16} (h : WritesSlot mk slot) :
    Claims.BoundaryEventRunsThrough mk slot := by
  intro k v s hphase hstage hqueue hopen hvalid hclock hdue hanswers
  have hstart : step s = .next (startEventFlush (mk k v) (sampleInputs s)) := by
    have hnotFlushing : inEventFlush (sampleInputs s) = false := by simp [inEventFlush, hstage]
    rw [stepResumesTheRecordInProgress s (mk k v) hphase hqueue (.inl hstage)]
    exact boundaryFlushesFirst_of_writesSlot h k v (sampleInputs s) hnotFlushing
      (hdue.trans (now_le_sampleInputs_now s)) hvalid hclock
  obtain ⟨rows, hrows⟩ := flushMessages_ends s.config s.x s.c
  obtain ⟨u, hrun, hkeeps, hsentAll, hcommit, hout⟩ :=
    run_inFlush (s := startEventFlush (mk k v) (sampleInputs s)) (by simp [flushing, inEventFlush, hphase]) hopen hrows
      (fun i hi => (sendable_flushMessages s.config s.x s.c i hi).1) hanswers
  have hwrite : step u = .next (applyWrite slot k v (sampleInputs u)) := by
    rw [stepResumesTheRecordInProgress u (mk k v) (hkeeps.phase.trans hphase) hsentAll (.inr hkeeps.stage), h]
    exact writeEvent_afterFlush (inEventFlush_eq_true.mpr ⟨_, hkeeps.stage⟩)
  refine ⟨applyWrite slot k v (sampleInputs u), ?_, hout, hcommit, ?_, rfl, rfl, hkeeps.phase.trans hphase, rfl,
    hsentAll, hkeeps.pc, hkeeps.diag, hkeeps.exitCause⟩
  · exact (run_succ hstart _).trans ((run_add hrun 1).trans (run_succ hwrite 0))
  · exact congrArg (·.set slot v) hkeeps.x

/-- Settles O56, by the run of a boundary event of any row. -/
theorem eventAtABoundaryFlushesThenWrites : Obligations.EventAtABoundaryFlushesThenWrites :=
  slotWrites_all boundaryEventRunsThrough_of_writesSlot

end Sys2Proof.Proofs

/-! SUPPORT. The wait of GATE of the nineteen record rows, and the obligations on it (spec 41_scheduler.md). -/

namespace Sys2Proof.Machine

open Sys2Proof

/-! ### How the wait ends by an interrupt (R127, R186) -/

/-- The interrupt, as the spec takes it, enters TEARDOWN while its guard is clear (R186, R188; D9). -/
theorem raise_interrupt_first {s : State} (hguard : s.teardownDone = false) (hflush : s.config.finalFlush ≠ .always) :
    raise .interrupt s = Claims.entersTeardown .interrupt .interrupt s :=
  calc raise .interrupt s
    _ = endWithoutFlush (givenUp .interrupt s) := raise_interrupt s
    _ = teardown (givenUp .interrupt s) := endWithoutFlush_direct (s := givenUp .interrupt s) hflush
    _ = Claims.entersTeardown .interrupt .interrupt s := teardown_first (s := givenUp .interrupt s) hguard

/-- A pending interrupt ends the wait: whatever record waits is discarded, and the interrupt is raised (R127). -/
theorem waitInGate_interrupted {s : State} (i : Instr) (h : s.irqPending = true) : waitInGate i s = raise .interrupt s :=
  if_pos h

/-! ### Which records wait -/

/-- An invalid event before its deadline waits while GATE_INVALID is on (D3). -/
theorem dropEvent_early {i : Instr} {k : Tick} {r : Byte} {s : State} (hgate : s.config.gateInvalid = true)
    (he : tooEarly k s = true) : dropEvent i k r s = .next (waitInGate i s) :=
  if_pos (Bool.and_eq_true_iff.mpr ⟨hgate, he⟩)

/-- Every record of the row is one invalid event (R94). -/
def DropsEvent (mk : Tick → Byte → Byte → Instr) : Prop :=
  ∀ (k : Tick) (r v : Byte) (s : State), exec (mk k r v) s = dropEvent (mk k r v) k r s

/-- What holds of every row that writes a slot, and what holds of every invalid row, holds of the nineteen record rows. -/
theorem recordRows_all {P : (Tick → Byte → Instr) → Prop} {Q : (Tick → Byte → Byte → Instr) → Prop}
    (hwrite : ∀ {mk slot}, WritesSlot mk slot → P mk) (hinvalid : ∀ {mk}, DropsEvent mk → Q mk) :
    P .wr0 ∧ P .wr1 ∧ P .wr2 ∧ P .wr3 ∧ P .wr4 ∧ P .wr5 ∧ P .wr6 ∧ P .wr7 ∧ P .wr8 ∧ P .wr9 ∧ P .wr10 ∧ P .wr11 ∧
      P .wr12 ∧ P .wr13 ∧ Q .invalid0E ∧ Q .invalid10 ∧ Q .invalid20 ∧ Q .invalid40 ∧ Q .invalid80 := by
  obtain ⟨w0, w1, w2, w3, w4, w5, w6, w7, w8, w9, w10, w11, w12, w13⟩ := slotWrites_all (P := fun mk _ => P mk) hwrite
  refine ⟨w0, w1, w2, w3, w4, w5, w6, w7, w8, w9, w10, w11, w12, w13, ?_, ?_, ?_, ?_, ?_⟩
  all_goals exact hinvalid fun _ _ _ _ => rfl

/-- Before its deadline a slot write does what the wait of GATE does, and nothing else (R121). -/
theorem WritesSlot.exec_early {mk : Tick → Byte → Instr} {slot : Fin 16} {k : Tick} {v : Byte} {s : State}
    (h : WritesSlot mk slot) (hflush : inEventFlush s = false) (hdue : s.now < Claims.due k s) :
    exec (mk k v) s = .next (waitInGate (mk k v) s) :=
  (h k v s).trans (writeEvent_early hflush (tooEarly_eq_true.mpr hdue))

/-- So does an invalid event while GATE_INVALID is on (D3). -/
theorem DropsEvent.exec_early {mk : Tick → Byte → Byte → Instr} {k : Tick} {r v : Byte} {s : State} (h : DropsEvent mk)
    (hgate : s.config.gateInvalid = true) (hdue : s.now < Claims.due k s) :
    exec (mk k r v) s = .next (waitInGate (mk k r v) s) :=
  (h k r v s).trans (dropEvent_early hgate (tooEarly_eq_true.mpr hdue))

/-! ### The wait of each kind of row -/

theorem writeWaits_of_writesSlot {mk : Tick → Byte → Instr} {slot : Fin 16} (h : WritesSlot mk slot) :
    Claims.WriteWaits mk := by
  intro k v s hflush hdue hirq
  rw [h.exec_early hflush hdue, waitInGate_quiet _ hirq]

theorem invalidWaits_of_dropsEvent {mk : Tick → Byte → Byte → Instr} (h : DropsEvent mk) : Claims.InvalidWaits mk := by
  intro k r v s hgate hdue hirq
  rw [h.exec_early hgate hdue, waitInGate_quiet _ hirq]

theorem writeWaitInterrupted_of_writesSlot {mk : Tick → Byte → Instr} {slot : Fin 16} (h : WritesSlot mk slot) :
    Claims.WriteWaitInterrupted mk := by
  intro k v s hflush hdue hirq hguard hfinal
  rw [h.exec_early hflush hdue, waitInGate_interrupted _ hirq, raise_interrupt_first hguard hfinal]

theorem invalidWaitInterrupted_of_dropsEvent {mk : Tick → Byte → Byte → Instr} (h : DropsEvent mk) :
    Claims.InvalidWaitInterrupted mk := by
  intro k r v s hgate hdue hirq hguard hfinal
  rw [h.exec_early hgate hdue, waitInGate_interrupted _ hirq, raise_interrupt_first hguard hfinal]

end Sys2Proof.Machine

namespace Sys2Proof.Proofs

open Sys2Proof Sys2Proof.Machine

/-- Settles O23: before its deadline every record only waits in GATE (D3 for the invalid rows). -/
theorem earlyRecordsWaitInTheGate : Obligations.EarlyRecordsWaitInTheGate :=
  recordRows_all writeWaits_of_writesSlot invalidWaits_of_dropsEvent

/-- Settles O24: the interrupt ends the wait of every record, by TEARDOWN (D9). -/
theorem interruptEndsTheWait : Obligations.InterruptEndsTheWait :=
  recordRows_all writeWaitInterrupted_of_writesSlot invalidWaitInterrupted_of_dropsEvent

end Sys2Proof.Proofs

/-! SUPPORT. Which messages a FLUSH queues and how it runs, by its ten fields, and the obligations on the diff encoder (spec
42_diff_encoder.md). -/

namespace Sys2Proof.Machine

open Sys2Proof

/-! ### The payloads by arithmetic (R152 to R160) -/

theorem payloadByte_and_shiftLeft (n width shift : Nat) :
    payloadByte ((n &&& (2 ^ width - 1)) <<< shift) = BitVec.ofNat 8 (n % 2 ^ width * 2 ^ shift) := by
  rw [payloadByte, Nat.and_two_pow_sub_one_eq_mod, Nat.shiftLeft_eq]

theorem payloadByte_shiftRight_and (n width shift : Nat) :
    payloadByte ((n >>> shift) &&& (2 ^ width - 1)) = BitVec.ofNat 8 (n / 2 ^ shift % 2 ^ width) := by
  rw [payloadByte, Nat.and_two_pow_sub_one_eq_mod, Nat.shiftRight_eq_div_pow]

theorem encFreqHi_eq (f : Nat) : encFreqHi f = BitVec.ofNat 8 (f / 32 % 128) := payloadByte_shiftRight_and f 7 5

/-- Masking after the shift by two is masking the five low bits before it (R153). -/
theorem encFreqLo_eq (f : Nat) : encFreqLo f = BitVec.ofNat 8 (f % 32 * 4) := by
  have hmask : (f <<< 2) &&& 0x7C = (f &&& 0x1F) <<< 2 := (Nat.shiftLeft_and_distrib (b := 0x1F)).symm
  rw [encFreqLo, hmask]
  exact payloadByte_and_shiftLeft f 5 2

theorem encEnvHi_eq (e : Nat) : encEnvHi e = BitVec.ofNat 8 (e / 512 % 128) := payloadByte_shiftRight_and e 7 9

theorem encEnvMid_eq (e : Nat) : encEnvMid 7 e = BitVec.ofNat 8 (e / 128 % 128) := payloadByte_shiftRight_and e 7 7

theorem encEnvLo_eq (e : Nat) : encEnvLo 2 e = BitVec.ofNat 8 (e / 4 % 4 * 32) := by
  rw [show e / 4 = e >>> 2 from (Nat.shiftRight_eq_div_pow e 2).symm]
  exact payloadByte_and_shiftLeft (e >>> 2) 2 5

theorem encNoise_eq (n : Nat) : encNoise n = BitVec.ofNat 8 (n % 32 * 4) := payloadByte_and_shiftLeft n 5 2

theorem encMixer_eq (m : Nat) : encMixer m = BitVec.ofNat 8 (m % 64 * 2) := payloadByte_and_shiftLeft m 6 1

theorem encLevel_eq (l : Nat) : encLevel l = BitVec.ofNat 8 (l % 32 * 4) := payloadByte_and_shiftLeft l 5 2

theorem encShape_eq (v : Nat) : encShape v = BitVec.ofNat 8 (v % 16 * 8) := payloadByte_and_shiftLeft v 4 3

/-- A 12-bit frequency has seven bits above its five low ones, so the mask of R152 takes nothing away. -/
theorem encFreqHi_freqValue (lo hi : Byte) :
    encFreqHi (freqValue lo hi) = BitVec.ofNat 8 (Claims.frequency lo hi / 32) := by
  have hlo := lo.isLt
  rw [encFreqHi_eq, freqValue_eq_frequency, Nat.mod_eq_of_lt (by simp only [Claims.frequency]; omega)]

theorem encFreqLo_freqValue (lo hi : Byte) :
    encFreqLo (freqValue lo hi) = BitVec.ofNat 8 (Claims.frequency lo hi % 32 * 4) := by
  rw [encFreqLo_eq, freqValue_eq_frequency]

/-- A 16-bit envelope frequency has seven bits above its nine low ones, so the mask of R154 takes nothing away. -/
theorem encEnvHi_envValue (lo hi : Byte) :
    encEnvHi (envValue lo hi) = BitVec.ofNat 8 (Claims.envelope lo hi / 512) := by
  have hlo := lo.isLt
  have hhi := hi.isLt
  rw [encEnvHi_eq, envValue_eq_envelope, Nat.mod_eq_of_lt (by simp only [Claims.envelope]; omega)]

theorem encNoise_noiseValue (v : Byte) : encNoise (noiseValue v) = BitVec.ofNat 8 (v.toNat % 32 * 4) := by
  rw [encNoise_eq, noiseValue_eq_mod, Nat.mod_mod]

theorem encMixer_mixerValue (v : Byte) : encMixer (mixerValue v) = BitVec.ofNat 8 (v.toNat % 64 * 2) := by
  rw [encMixer_eq, mixerValue_eq_mod, Nat.mod_mod]

theorem encLevel_levelValue (v : Byte) : encLevel (levelValue v) = BitVec.ofNat 8 (v.toNat % 32 * 4) := by
  rw [encLevel_eq, levelValue_eq_mod, Nat.mod_mod]

theorem encShape_shapeValue (v : Byte) : encShape (shapeValue v) = BitVec.ofNat 8 (v.toNat % 16 * 8) := by
  rw [encShape_eq, shapeValue_eq_mod, Nat.mod_mod]

/-! ### The ten fields (R132 to R141) -/

/-- One field of the diff encoder: the slots it is compared on, and its messages for the pending bank. -/
structure DiffField where
  slots : List (Fin 16)
  rows : List Instr

/-- A field is changed when one of its slots differs, as a whole byte (R147). -/
def DiffField.changed (x y : Bank) (f : DiffField) : Bool := f.slots.any (slotDiffers x y)

/-- What a FLUSH queues for a field. -/
def DiffField.queued (x y : Bank) (f : DiffField) : List Instr := whenChanged (f.changed x y) f.rows

/-- The ten fields in the order of R130 (D6). -/
def fields (cfg : Config) (x : Bank) : List DiffField :=
  [⟨[0, 1], emitFreqA (fA x)⟩, ⟨[2, 3], emitFreqB (fB x)⟩, ⟨[4, 5], emitFreqC (fC x)⟩,
   ⟨[6], emitNoise (noiseValue x[6])⟩, ⟨[7], emitMixer (mixerValue x[7])⟩,
   ⟨[8], emitLevelA (levelValue x[8])⟩, ⟨[9], emitLevelB (levelValue x[9])⟩, ⟨[10], emitLevelC (levelValue x[10])⟩,
   ⟨[11, 12], emitEnvFreq cfg (envValue x[11] x[12])⟩, ⟨[13], emitShape (shapeValue x[13])⟩]

/-- What a FLUSH queues between its begin-update and its end-update. -/
def queuedFields (cfg : Config) (x y : Bank) : List Instr := (fields cfg x).flatMap (DiffField.queued x y)

/-- A FLUSH is its changed fields, framed (R130). -/
theorem flushMessages_eq_queuedFields (cfg : Config) (x y : Bank) :
    flushMessages cfg x y = .msgLatchEnable :: (queuedFields cfg x y ++ [.msgLatchDisable]) := by
  simp [flushMessages, queuedFields, fields, DiffField.queued, DiffField.changed, changedFreqA, changedFreqB, changedFreqC,
    changedNoise, changedMixer, changedLevelA, changedLevelB, changedLevelC, changedEnvFreq, changedShape]

theorem slotDiffers_eq_true {x y : Bank} {i : Fin 16} : slotDiffers x y i = true ↔ x[i] ≠ y[i] := bne_iff_ne

theorem DiffField.changed_eq_true {x y : Bank} {f : DiffField} : f.changed x y = true ↔ ∃ i ∈ f.slots, x[i] ≠ y[i] := by
  simp only [DiffField.changed, List.any_eq_true, slotDiffers_eq_true]

theorem DiffField.queued_sublist (x y : Bank) (f : DiffField) : (f.queued x y).Sublist f.rows := by
  unfold DiffField.queued whenChanged
  split
  · exact .refl _
  · exact f.rows.nil_sublist

/-- What is queued for some fields is among their messages, in order. -/
theorem flatMap_queued_sublist (x y : Bank) (fs : List DiffField) :
    (fs.flatMap (DiffField.queued x y)).Sublist (fs.flatMap DiffField.rows) := by
  induction fs with
  | nil => exact .refl _
  | cons f fs ih => exact (f.queued_sublist x y).append ih

/-! ### The addresses of a FLUSH (R76, R130) -/

/-- The address of a message row in the opcode table: the first byte of its word (R75). -/
def tableAddress (i : Instr) : Byte := (encode i).headD 0

/-- The messages of all ten fields have these addresses whatever the banks hold. -/
theorem tableAddress_fields (cfg : Config) (x : Bank) :
    ((fields cfg x).flatMap DiffField.rows).map tableAddress =
      [20, 52, 21, 53, 22, 54, 23, 24, 25, 26, 27, 28, 29, 30, 31] := rfl

/-- No field is sent to the latch. -/
theorem latch_not_mem_fields (cfg : Config) (x : Bank) :
    (80 : Byte) ∉ ((fields cfg x).flatMap DiffField.rows).map tableAddress := by
  rw [tableAddress_fields]
  decide

theorem latchDisable_not_mem_queuedFields (cfg : Config) (x y : Bank) : .msgLatchDisable ∉ queuedFields cfg x y :=
  fun h => latch_not_mem_fields cfg x (List.mem_map_of_mem (f := tableAddress)
    ((flatMap_queued_sublist x y _).subset h))

theorem rowsTo_append (addresses : List Byte) (rows rows' : List Instr) :
    Claims.rowsTo addresses (rows ++ rows') = Claims.rowsTo addresses rows ++ Claims.rowsTo addresses rows' :=
  List.filter_append ..

theorem rowsTo_eq_self {addresses : List Byte} {rows : List Instr} (h : ∀ i ∈ rows, tableAddress i ∈ addresses) :
    Claims.rowsTo addresses rows = rows :=
  List.filter_eq_self.mpr fun i hi => List.contains_iff_mem.mpr (h i hi)

theorem rowsTo_eq_nil {addresses : List Byte} {rows : List Instr} (h : ∀ i ∈ rows, tableAddress i ∉ addresses) :
    Claims.rowsTo addresses rows = [] :=
  List.filter_eq_nil_iff.mpr fun i hi => mt List.contains_iff_mem.mp (h i hi)

/-- Where fields have distinct addresses, the rows queued to the addresses of one are what is queued for it. -/
theorem rowsTo_flatMap_queued {x y : Bank} {f : DiffField} {fs : List DiffField} (hf : f ∈ fs)
    (hdistinct : ((fs.flatMap DiffField.rows).map tableAddress).Nodup) :
    Claims.rowsTo (f.rows.map tableAddress) (fs.flatMap (DiffField.queued x y)) = f.queued x y := by
  induction fs with
  | nil => exact absurd hf List.not_mem_nil
  | cons g fs ih =>
    rw [List.flatMap_cons, List.map_append, List.nodup_append'] at hdistinct
    obtain ⟨-, hlater, hdisjoint⟩ := hdistinct
    have haddress {i : Instr} (hi : i ∈ g.queued x y) : tableAddress i ∈ g.rows.map tableAddress :=
      List.mem_map_of_mem ((g.queued_sublist x y).subset hi)
    rw [List.flatMap_cons, rowsTo_append]
    obtain rfl | hf := List.mem_cons.mp hf
    · rw [rowsTo_eq_self fun i hi => haddress hi, rowsTo_eq_nil, List.append_nil]
      exact fun i hi hmem =>
        hdisjoint hmem (List.mem_map_of_mem ((flatMap_queued_sublist x y fs).subset hi))
    · rw [ih hf hlater, rowsTo_eq_nil, List.nil_append]
      intro i hi hmem
      obtain ⟨j, hj, hji⟩ := List.mem_map.mp hmem
      exact hdisjoint (haddress hi) (List.mem_map.mpr ⟨j, List.mem_flatMap.mpr ⟨f, hf, hj⟩, hji⟩)

/-- The rows of a FLUSH to the addresses of a field are what is queued for that field. -/
theorem rowsTo_flushMessages {cfg : Config} {x y : Bank} {f : DiffField} (hf : f ∈ fields cfg x) :
    Claims.rowsTo (f.rows.map tableAddress) (flushMessages cfg x y) = f.queued x y := by
  have hdistinct : (((fields cfg x).flatMap DiffField.rows).map tableAddress).Nodup := by
    rw [tableAddress_fields]
    decide
  have hlatch : (80 : Byte) ∉ f.rows.map tableAddress := fun h =>
    latch_not_mem_fields cfg x (List.map_subset _ (fun _ hi => List.mem_flatMap.mpr ⟨f, hf, hi⟩) h)
  have hframe {i : Instr} (hi : tableAddress i = 80) : Claims.rowsTo (f.rows.map tableAddress) [i] = [] :=
    rowsTo_eq_nil fun j hj => by rwa [List.mem_singleton.mp hj, hi]
  rw [flushMessages_eq_queuedFields, ← List.singleton_append, rowsTo_append, rowsTo_append, hframe rfl, hframe rfl,
    queuedFields, rowsTo_flatMap_queued hf hdistinct, List.nil_append, List.append_nil]

/-- A field is sent exactly when it is changed: its messages on the wire, or nothing (R132 to R141). -/
theorem wire_rowsTo_flushMessages {cfg : Config} {x y : Bank} {f : DiffField} {addresses : List Byte} {msgs : List Message}
    {differs : Prop} [Decidable differs] (hf : f ∈ fields cfg x) (haddresses : f.rows.map tableAddress = addresses)
    (hchanged : f.changed x y = true ↔ differs) (hmsgs : wire cfg f.rows = msgs) :
    wire cfg (Claims.rowsTo addresses (flushMessages cfg x y)) = if differs then msgs else [] := by
  rw [← haddresses, rowsTo_flushMessages hf, DiffField.queued, whenChanged, ← hmsgs]
  simp only [hchanged]
  split <;> rfl

theorem DiffField.changed_one {x y : Bank} {i : Fin 16} {rows : List Instr} :
    DiffField.changed x y ⟨[i], rows⟩ = true ↔ x[i] ≠ y[i] := by
  simp [DiffField.changed_eq_true]

theorem DiffField.changed_two {x y : Bank} {i j : Fin 16} {rows : List Instr} :
    DiffField.changed x y ⟨[i, j], rows⟩ = true ↔ x[i] ≠ y[i] ∨ x[j] ≠ y[j] := by
  simp [DiffField.changed_eq_true]

/-- A field of one slot, the `n`-th of the ten: its messages are sent when its slot differs. -/
theorem wire_rowsTo_oneSlot {cfg : Config} {x y : Bank} {i : Fin 16} {rows : List Instr} {addresses : List Byte}
    {msgs : List Message} (n : Nat) (hf : (fields cfg x)[n]? = some ⟨[i], rows⟩)
    (haddresses : rows.map tableAddress = addresses) (hmsgs : wire cfg rows = msgs) :
    wire cfg (Claims.rowsTo addresses (flushMessages cfg x y)) = if x[i] ≠ y[i] then msgs else [] :=
  wire_rowsTo_flushMessages (List.mem_of_getElem? hf) haddresses DiffField.changed_one hmsgs

/-- A field of two slots, the `n`-th of the ten: its messages are sent when one of its slots differs. -/
theorem wire_rowsTo_twoSlots {cfg : Config} {x y : Bank} {i j : Fin 16} {rows : List Instr} {addresses : List Byte}
    {msgs : List Message} (n : Nat) (hf : (fields cfg x)[n]? = some ⟨[i, j], rows⟩)
    (haddresses : rows.map tableAddress = addresses) (hmsgs : wire cfg rows = msgs) :
    wire cfg (Claims.rowsTo addresses (flushMessages cfg x y)) = if x[i] ≠ y[i] ∨ x[j] ≠ y[j] then msgs else [] :=
  wire_rowsTo_flushMessages (List.mem_of_getElem? hf) haddresses DiffField.changed_two hmsgs

/-- Every field has a message, so none is queued exactly when no slot of a field differs. -/
theorem queuedFields_eq_nil {cfg : Config} {x y : Bank} :
    queuedFields cfg x y = [] ↔ ∀ f ∈ fields cfg x, ∀ i ∈ f.slots, x[i] = y[i] := by
  have hrows : ∀ f ∈ fields cfg x, f.rows ≠ [] := by
    simp [fields, emitFreqA, emitFreqB, emitFreqC, emitNoise, emitMixer, emitLevelA, emitLevelB, emitLevelC, emitEnvFreq,
      emitShape]
  rw [queuedFields, List.flatMap_eq_nil_iff]
  refine forall₂_congr fun f hf => ?_
  rw [DiffField.queued, whenChanged, ite_eq_right_iff, imp_iff_not (hrows f hf), DiffField.changed_eq_true]
  push Not
  rfl

/-- The slots of the fields are the writable ones, 0 to 13 (R22, R148). -/
theorem mem_slots_fields (cfg : Config) (x : Bank) (i : Fin 16) :
    (∃ f ∈ fields cfg x, i ∈ f.slots) ↔ i.val < 14 := by
  have hslots : (fields cfg x).flatMap DiffField.slots = [0, 1, 2, 3, 4, 5, 6, 7, 8, 9, 10, 11, 12, 13] := rfl
  rw [← List.mem_flatMap, hslots]
  revert i
  decide

/-! ### The first messages of a queue are sent -/

/-- Within a session the step with a message left sends it, or raises SendFailure (R14). -/
theorem step_sends {s : State} {i : Instr} {rest : List Instr} (hoff : s.phase ≠ .off) (hdone : s.phase ≠ .done)
    (hqueue : s.outbox = i :: rest) (hmsg : i.isMessage = true) :
    ∃ m, onWire s.config i = some m ∧ step s = sendThen m (afterSend i) (withOutbox rest (sampleInputs s)) := by
  obtain ⟨m, hwire, hsend⟩ := exec_message hmsg (withOutbox rest (sampleInputs s))
  exact ⟨m, hwire, (Proofs.stepRunsTheNextMessage s i rest hoff hdone hqueue).trans hsend⟩

/-- `s` with `rows` sent, `rest` left to send, and the time and interrupt inputs of `w`. -/
def afterRows (rows rest : List Instr) (w s : State) : State :=
  { s with
    outbox := rest, out := s.out ++ wire s.config rows, answers := s.answers.drop rows.length,
    now := w.now, irqPending := w.irqPending, arrivals := w.arrivals }

/-- Messages that are accepted and are no end-update are sent one per step, and nothing else changes but the inputs (R14,
R170). -/
theorem run_sends_rows {s : State} {rows rest : List Instr} (hoff : s.phase ≠ .off) (hdone : s.phase ≠ .done)
    (hopen : s.sinkOpen = true) (hqueue : s.outbox = rows ++ rest) (hmsgs : ∀ i ∈ rows, i.isMessage = true)
    (hend : .msgLatchDisable ∉ rows) (hanswers : AcceptsNext rows.length s) :
    ∃ w, Sys2Proof.core.run rows.length s = .next (afterRows rows rest w s) := by
  induction rows generalizing s with
  | nil => exact ⟨s, by simp [Host.Core.run, afterRows, wire, ← show s.outbox = rest from hqueue]⟩
  | cons i rows ih =>
    obtain ⟨hmsg, hmsgs⟩ := List.forall_mem_cons.mp hmsgs
    obtain ⟨hi, hend⟩ := List.ne_and_not_mem_of_not_mem_cons hend
    obtain ⟨hanswer, hlater⟩ := acceptsNext_succ hanswers
    obtain ⟨m, hwire, hstep⟩ := step_sends hoff hdone hqueue hmsg
    have hnext := hstep.trans (sendThen_ok (s := withOutbox (rows ++ rest) (sampleInputs s)) hopen hanswer)
    rw [afterSend_other hi.symm, id] at hnext
    obtain ⟨w, hrun⟩ :=
      ih (s := accept m (withOutbox (rows ++ rest) (sampleInputs s))) hoff hdone hopen rfl hmsgs hend hlater
    refine ⟨w, (run_succ hnext _).trans (hrun.trans ?_)⟩
    have hhead : wire s.config (i :: rows) = m :: wire s.config rows := List.filterMap_cons_some hwire
    simp [afterRows, hhead, withOutbox, accept, sampleInputs]

/-- A Send refused outside TEARDOWN enters it: the message is recorded and nothing is appended (R185). -/
theorem sendThen_refused {m : Message} {after : State → State} {s : State} (hreset : s.phase ≠ .endReset)
    (hguard : s.teardownDone = false) (hopen : s.sinkOpen = true) (hanswer : sinkAccepts s = false) :
    sendThen m after s = .next (Claims.entersTeardown .sendFailure (.sendFailure m) (turnAway s)) := by
  rw [sendThen_fail hopen hanswer, raise_sendFailure_teardown (s := turnAway s) hreset,
    teardown_first (s := givenUp (.sendFailure m) (turnAway s)) hguard]
  rfl

/-- The next message refused ends the session through TEARDOWN (R145, R185). -/
theorem step_refused {s : State} {i : Instr} {rest : List Instr} (hoff : s.phase ≠ .off) (hdone : s.phase ≠ .done)
    (hreset : s.phase ≠ .endReset) (hguard : s.teardownDone = false) (hopen : s.sinkOpen = true)
    (hqueue : s.outbox = i :: rest) (hmsg : i.isMessage = true) (hanswer : sinkAccepts s = false) :
    ∃ m, onWire s.config i = some m ∧
      step s = .next (Claims.entersTeardown .sendFailure (.sendFailure m) (turnAway (sampleInputs s))) := by
  obtain ⟨m, hwire, hstep⟩ := step_sends hoff hdone hqueue hmsg
  exact ⟨m, hwire, hstep.trans (sendThen_refused (s := withOutbox rest (sampleInputs s)) hreset hguard hopen hanswer)⟩

/-- The first messages of a FLUSH hold no end-update, which is its last. -/
theorem latchDisable_not_mem_take_flushMessages {cfg : Config} {x y : Bank} {n : Nat}
    (hn : n < (flushMessages cfg x y).length) : .msgLatchDisable ∉ (flushMessages cfg x y).take n := by
  rw [flushMessages_eq_queuedFields, ← List.cons_append] at hn ⊢
  rw [List.length_append, List.length_singleton] at hn
  rw [List.take_append_of_le_length (by omega)]
  intro h
  obtain hfirst | hfield := List.mem_cons.mp (List.mem_of_mem_take h)
  · cases hfirst
  · exact latchDisable_not_mem_queuedFields cfg x y hfield

theorem isMessage_of_flushQueued {s : State} {i : Instr} (hqueue : s.outbox = flushMessages s.config s.x s.c)
    (hi : i ∈ s.outbox) : i.isMessage = true :=
  (sendable_flushMessages s.config s.x s.c i (by rwa [← hqueue])).1

/-- A FLUSH has sent its first `n` messages after `n` steps when those are accepted, and nothing else has changed but the
inputs (R130). -/
theorem run_inFlush_first {s : State} {n : Nat} (hflush : flushing s = true) (hopen : s.sinkOpen = true)
    (hqueue : s.outbox = flushMessages s.config s.x s.c) (hn : n < s.outbox.length) (hanswers : AcceptsNext n s) :
    ∃ w, Sys2Proof.core.run n s = .next (afterRows (s.outbox.take n) (s.outbox.drop n) w s) := by
  obtain ⟨hoff, hdone⟩ : s.phase ≠ .off ∧ s.phase ≠ .done := by
    obtain hphase | hphase := phase_of_flushing hflush <;> simp [hphase]
  have hlength : (s.outbox.take n).length = n := List.length_take_of_le hn.le
  have hmsgs : ∀ i ∈ s.outbox.take n, i.isMessage = true := fun _ hi =>
    isMessage_of_flushQueued hqueue (List.mem_of_mem_take hi)
  have hend : .msgLatchDisable ∉ s.outbox.take n := by
    rw [hqueue] at hn ⊢
    exact latchDisable_not_mem_take_flushMessages hn
  have hsent := run_sends_rows hoff hdone hopen (List.take_append_drop n s.outbox).symm hmsgs hend (by rwa [hlength])
  rwa [hlength] at hsent

/-! ### The frame of a message -/

@[simp] theorem raise_prevValid (e : Condition) (s : State) : (raise e s).prevValid = s.prevValid := by
  simp [raise_frame]

@[simp] theorem raise_prevClock (e : Condition) (s : State) : (raise e s).prevClock = s.prevClock := by
  simp [raise_frame]

@[simp] theorem raise_sendFailure_warnCount (m : Message) (s : State) :
    (raise (.sendFailure m) s).warnCount = s.warnCount := by
  by_cases hphase : s.phase = .endReset
  · rw [raise_sendFailure_inTeardown hphase, givenUp_warnCount]
  · rw [raise_sendFailure_teardown hphase, teardown_warnCount, givenUp_warnCount]

@[simp] theorem raise_sendFailure_truncated (m : Message) (s : State) :
    (raise (.sendFailure m) s).truncated = s.truncated := by
  by_cases hphase : s.phase = .endReset
  · rw [raise_sendFailure_inTeardown hphase, givenUp_truncated]
  · rw [raise_sendFailure_teardown hphase, teardown_truncated, givenUp_truncated]

/-- Only the end-update of a FLUSH commits (R143). -/
theorem afterSend_c {i : Instr} {s : State} (h : i ≠ .msgLatchDisable ∨ flushing s = false) : (afterSend i s).c = s.c := by
  by_cases hi : i = .msgLatchDisable
  · have hflush : flushing s = false := h.resolve_left (not_not_intro hi)
    simp [hi, hflush]
  · rw [afterSend_other hi, id]

/-- A FLUSH is in progress by phase and stage alone. -/
theorem flushing_iff {s : State} :
    flushing s = true ↔ (s.phase = .run ∧ inEventFlush s = true) ∨ s.phase = .finalFlush := by
  cases hphase : s.phase <;> simp [flushing, hphase]

end Sys2Proof.Machine

namespace Sys2Proof.Proofs

open Sys2Proof Sys2Proof.Machine

/-- Settles O27: each row is one Send, and in a RESET no commit follows it. -/
theorem latchMessagesAreSent : Obligations.LatchMessagesAreSent := by
  intro s rest hopen hanswers
  refine ⟨sendThen_accepted hopen hanswers, sendThen_accepted hopen hanswers, fun hphase => ?_⟩
  refine (sendThen_accepted hopen hanswers).trans (congrArg _ (if_neg ?_))
  obtain hphase | hphase := hphase <;> simp [flushing, hphase]

/-- Settles O28: the Send is accepted with a FLUSH in progress, and the commit follows. -/
theorem endUpdateOfAFlushCommits : Obligations.EndUpdateOfAFlushCommits := by
  intro s rest hopen hanswers hphase
  exact (sendThen_accepted hopen hanswers).trans (congrArg _ (if_pos (flushing_iff.mpr hphase)))

/-- Settles O34, by the two answers of the sink. -/
theorem messagesLeaveTheRestAlone : Obligations.MessagesLeaveTheRestAlone := by
  intro i s t hmsg hexec
  obtain ⟨m, -, hsend⟩ := exec_message hmsg s
  obtain ⟨-, ⟨-, rfl⟩ | ⟨hfail, rfl⟩⟩ := sendThen_next (hsend ▸ hexec)
  · have hcommitted := afterSend_c (i := i) (s := accept m s)
    obtain ⟨c, hc⟩ := afterSend_onlyCommits i (accept m s)
    rw [hc] at hcommitted ⊢
    exact ⟨⟨rfl, rfl, rfl, rfl, rfl, rfl, rfl, rfl, rfl, rfl, rfl, rfl⟩, fun _ => rfl,
      fun _ => ⟨rfl, rfl, rfl, rfl, rfl, rfl, rfl, hcommitted⟩⟩
  · simp [hfail]

/-- Settles O18: what is queued for the fields is among all their messages, whose addresses stand in this order. -/
theorem flushKeepsTheFixedOrder : Obligations.FlushKeepsTheFixedOrder := by
  intro cfg x y
  rw [flushMessages_eq_queuedFields]
  refine ⟨?_, rfl, by rw [← List.cons_append, List.getLast?_concat]⟩
  have hfields := (flatMap_queued_sublist x y (fields cfg x)).map tableAddress
  rw [tableAddress_fields] at hfields
  rw [List.map_cons, List.map_append]
  exact .cons_cons 80 (hfields.append (.refl [80]))

/-- Settles O15: a channel's frequency is the field of its two slots. -/
theorem frequencyMessagesFollowTheirSlots : Obligations.FrequencyMessagesFollowTheirSlots := by
  intro cfg x y
  refine ⟨wire_rowsTo_twoSlots (i := 0) (j := 1) 0 rfl rfl ?_, wire_rowsTo_twoSlots (i := 2) (j := 3) 1 rfl rfl ?_,
    wire_rowsTo_twoSlots (i := 4) (j := 5) 2 rfl rfl ?_⟩
  all_goals
    rw [← encFreqHi_freqValue, ← encFreqLo_freqValue]
    rfl

/-- Settles O16: each of these fields is the one of its slot, and its encoder reads the masked slot. -/
theorem oneSlotMessagesFollowTheirSlot : Obligations.OneSlotMessagesFollowTheirSlot := by
  intro cfg x y
  refine ⟨wire_rowsTo_oneSlot (i := 6) 3 rfl rfl ?_, wire_rowsTo_oneSlot (i := 7) 4 rfl rfl ?_,
    wire_rowsTo_oneSlot (i := 8) 5 rfl rfl ?_, wire_rowsTo_oneSlot (i := 9) 6 rfl rfl ?_,
    wire_rowsTo_oneSlot (i := 10) 7 rfl rfl ?_, wire_rowsTo_oneSlot (i := 13) 9 rfl rfl ?_⟩
  · rw [← encNoise_noiseValue]; rfl
  · rw [← encMixer_mixerValue]; rfl
  · rw [← encLevel_levelValue]; rfl
  · rw [← encLevel_levelValue]; rfl
  · rw [← encLevel_levelValue]; rfl
  · rw [← encShape_shapeValue]; rfl

/-- Settles O17: the envelope frequency is the field of its two slots, with the shifts the spec takes. -/
theorem envelopeMessagesFollowTheirSlots : Obligations.EnvelopeMessagesFollowTheirSlots := by
  intro cfg x y hmid hlow
  refine wire_rowsTo_twoSlots (i := 11) (j := 12) 8 rfl rfl ?_
  rw [← encEnvHi_envValue, ← encEnvMid_eq, ← encEnvLo_eq, ← envValue_eq_envelope, ← hmid, ← hlow]
  rfl

/-- Settles O19: nothing stands in the frame exactly when no slot of a field differs. -/
theorem unchangedBanksFlushAnEmptyBatch : Obligations.UnchangedBanksFlushAnEmptyBatch := by
  intro cfg x y
  have hframe : flushMessages cfg x y = [.msgLatchEnable, .msgLatchDisable] ↔ queuedFields cfg x y = [] := by
    rw [flushMessages_eq_queuedFields, List.cons_inj_right, List.append_eq_singleton_iff]
    simp
  rw [hframe, queuedFields_eq_nil]
  constructor
  · intro h i hi
    obtain ⟨f, hf, hslot⟩ := (mem_slots_fields cfg x i).mpr hi
    exact h f hf i hslot
  · exact fun h f hf i hslot => h i ((mem_slots_fields cfg x i).mp ⟨f, hf, hslot⟩)

/-- Settles O54: the first messages are sent with both banks as they were, and the end-update commits. -/
theorem flushRunsToItsCommit : Obligations.FlushRunsToItsCommit := by
  intro s hflush hopen hqueue hanswers
  constructor
  · intro n hn
    have hfirst : AcceptsNext n s := fun b hb => hanswers b (List.take_subset_take_left _ hn.le hb)
    obtain ⟨w, hrun⟩ := run_inFlush_first hflush hopen hqueue hn hfirst
    exact ⟨_, hrun, rfl, rfl, rfl⟩
  · obtain ⟨rows, hrows⟩ := flushMessages_ends s.config s.x s.c
    obtain ⟨t, hrun, hkeeps, hdone, hcommit, hsent⟩ := run_inFlush hflush hopen (hqueue.trans hrows)
      (fun _ => isMessage_of_flushQueued hqueue) hanswers
    exact ⟨t, hrun, hcommit, hkeeps.x, hsent, hdone, hkeeps.phase, hkeeps.stage, hkeeps.prevClock, hkeeps.prevValid,
      hkeeps.pc, hkeeps.diag⟩

/-- Settles O55: after the messages before it, the refused one enters TEARDOWN. -/
theorem failedSendAbandonsTheFlush : Obligations.FailedSendAbandonsTheFlush := by
  intro s n rest hflush hopen hguard hqueue hn hanswers
  obtain ⟨hoff, hdone, hreset⟩ : s.phase ≠ .off ∧ s.phase ≠ .done ∧ s.phase ≠ .endReset := by
    obtain hphase | hphase := phase_of_flushing hflush <;> simp [hphase]
  have hfirst : AcceptsNext n s := fun b hb => by
    rw [hanswers, List.take_left' List.length_replicate] at hb
    exact List.eq_of_mem_replicate hb
  obtain ⟨w, hrun⟩ := run_inFlush_first hflush hopen hqueue hn hfirst
  have hlength : (s.outbox.take n).length = n := List.length_take_of_le hn.le
  have hnext : s.outbox.drop n = s.outbox[n] :: s.outbox.drop (n + 1) := List.drop_eq_getElem_cons hn
  have hmsg : s.outbox[n].isMessage = true := isMessage_of_flushQueued hqueue (List.getElem_mem hn)
  have hrefused : sinkAccepts (afterRows (s.outbox.take n) (s.outbox.drop n) w s) = false := by
    simp [sinkAccepts, afterRows, hlength, hanswers]
  obtain ⟨m, hwire, hstep⟩ := step_refused (s := afterRows (s.outbox.take n) (s.outbox.drop n) w s) hoff hdone hreset
    hguard hopen hnext hmsg hrefused
  have hfailed : (s.outbox[n]?).bind (onWire s.config) = some m := by
    rw [List.getElem?_eq_getElem hn]
    exact hwire
  exact ⟨_, m, (run_add hrun 1).trans (run_succ hstep 0), rfl, hfailed,
    rfl, rfl, rfl, rfl, rfl, rfl, rfl, rfl, rfl, rfl, rfl⟩

end Sys2Proof.Proofs

/-! SUPPORT. The payloads as numbers, what the payloads of a frequency tell about it, and the obligations on the encoders (spec
43_protocol_mapper.md). -/

namespace Sys2Proof.Machine

open Sys2Proof

/-! ### The payloads as numbers (R152 to R160)

Each encoder's number fits in a payload byte, so the byte loses none of it. -/

@[simp] theorem toNat_encFreqHi (f : Nat) : (encFreqHi f).toNat = f / 32 % 128 :=
  BitVec.toNat_eq_nat.mpr ⟨by omega, encFreqHi_eq f⟩

@[simp] theorem toNat_encFreqLo (f : Nat) : (encFreqLo f).toNat = f % 32 * 4 :=
  BitVec.toNat_eq_nat.mpr ⟨by omega, encFreqLo_eq f⟩

@[simp] theorem toNat_encEnvHi (e : Nat) : (encEnvHi e).toNat = e / 512 % 128 :=
  BitVec.toNat_eq_nat.mpr ⟨by omega, encEnvHi_eq e⟩

@[simp] theorem toNat_encEnvMid (e : Nat) : (encEnvMid 7 e).toNat = e / 128 % 128 :=
  BitVec.toNat_eq_nat.mpr ⟨by omega, encEnvMid_eq e⟩

@[simp] theorem toNat_encEnvLo (e : Nat) : (encEnvLo 2 e).toNat = e / 4 % 4 * 32 :=
  BitVec.toNat_eq_nat.mpr ⟨by omega, encEnvLo_eq e⟩

@[simp] theorem toNat_encNoise (n : Nat) : (encNoise n).toNat = n % 32 * 4 :=
  BitVec.toNat_eq_nat.mpr ⟨by omega, encNoise_eq n⟩

@[simp] theorem toNat_encMixer (m : Nat) : (encMixer m).toNat = m % 64 * 2 :=
  BitVec.toNat_eq_nat.mpr ⟨by omega, encMixer_eq m⟩

@[simp] theorem toNat_encLevel (l : Nat) : (encLevel l).toNat = l % 32 * 4 :=
  BitVec.toNat_eq_nat.mpr ⟨by omega, encLevel_eq l⟩

@[simp] theorem toNat_encShape (v : Nat) : (encShape v).toNat = v % 16 * 8 :=
  BitVec.toNat_eq_nat.mpr ⟨by omega, encShape_eq v⟩

/-! ### What the payloads of a frequency tell about it (R163) -/

/-- The receiver's formula: seven high bits above five low ones. -/
theorem frequency_eq_of_payloads {f : Nat} (hf : f < 4096) :
    f = (encFreqHi f).toNat * 32 + (encFreqLo f).toNat / 4 := by
  rw [toNat_encFreqHi, toNat_encFreqLo]
  omega

/-- Bits 15:7 of the envelope frequency are the high payload above the two low bits of the mid payload; the mid payload's other
five bits, 13:9 of the frequency, stand in both. -/
theorem envelope_high_bits_eq_of_payloads {e : Nat} (he : e < 65536) :
    e / 128 = (encEnvHi e).toNat * 4 + (encEnvMid 7 e).toNat % 4 := by
  rw [toNat_encEnvHi, toNat_encEnvMid]
  omega

theorem envelope_low_bits_eq_of_payload (e : Nat) : e / 4 % 4 = (encEnvLo 2 e).toNat / 32 := by
  rw [toNat_encEnvLo, Nat.mul_div_cancel _ (by decide)]

/-- The high payload reads the envelope frequency from bit 9 on, so bits 15:7 settle it. -/
theorem encEnvHi_eq_of_high_bits (e : Nat) : encEnvHi e = BitVec.ofNat 8 (e / 128 / 4 % 128) := by
  rw [encEnvHi_eq, Nat.div_div_eq_div_mul]

end Sys2Proof.Machine

namespace Sys2Proof.Proofs

open Sys2Proof Sys2Proof.Machine

/-- Settles O12: the receiver's formula gives both frequencies from the same payloads. -/
theorem frequencyIsRecoverableFromItsPayloads : Obligations.FrequencyIsRecoverableFromItsPayloads := by
  intro f g hf hg hhigh hlow
  calc f = (encFreqHi f).toNat * 32 + (encFreqLo f).toNat / 4 := frequency_eq_of_payloads hf
    _ = (encFreqHi g).toNat * 32 + (encFreqLo g).toNat / 4 := by rw [hhigh, hlow]
    _ = g := (frequency_eq_of_payloads hg).symm

/-- Settles O13: the payloads give back bits 15:7 and 3:2, and are functions of these bits alone (D26). -/
theorem envelopeBitsThatNeverArrive : Obligations.EnvelopeBitsThatNeverArrive := by
  intro e g he hg
  constructor
  · rintro ⟨hhigh, hmid, hlow⟩
    constructor
    · rw [envelope_high_bits_eq_of_payloads he, envelope_high_bits_eq_of_payloads hg, hhigh, hmid]
    · rw [envelope_low_bits_eq_of_payload e, envelope_low_bits_eq_of_payload g, hlow]
  · rintro ⟨hhigh, hlow⟩
    refine ⟨?_, ?_, ?_⟩
    · rw [encEnvHi_eq_of_high_bits, encEnvHi_eq_of_high_bits, hhigh]
    · rw [encEnvMid_eq, encEnvMid_eq, hhigh]
    · rw [encEnvLo_eq, encEnvLo_eq, hlow]

/-- Settles O9: both payloads as numbers. -/
theorem frequencyEncodersPackSevenAndFiveBits : Obligations.FrequencyEncodersPackSevenAndFiveBits :=
  fun f => ⟨toNat_encFreqHi f, toNat_encFreqLo f⟩

/-- Settles O10: the default configuration holds the shifts 7 and 2. -/
theorem envelopeEncodersFollowTheFormulas : Obligations.EnvelopeEncodersFollowTheFormulas :=
  fun e => ⟨toNat_encEnvHi e, toNat_encEnvMid e, toNat_encEnvLo e⟩

/-- Settles O11: the four payloads as numbers. -/
theorem oneSlotEncodersMaskThenShift : Obligations.OneSlotEncodersMaskThenShift :=
  fun v => ⟨toNat_encNoise v, toNat_encMixer v, toNat_encLevel v, toNat_encShape v⟩

end Sys2Proof.Proofs

/-! SUPPORT. The messages of a RESET in progress, what follows them, and the obligation on the operation RESET (spec
44_reset_operation.md). -/

namespace Sys2Proof.Machine

open Sys2Proof

/-- A RESET is in progress: the one that starts a session or the one of TEARDOWN (R170). -/
def inReset (s : State) : Prop := s.phase = .startReset ∨ s.phase = .endReset

theorem inSession_of_inReset {s : State} (h : inReset s) : s.phase ≠ .off ∧ s.phase ≠ .done := by
  obtain hphase | hphase := h <;> simp [hphase]

/-- In a RESET of either kind no FLUSH is in progress, so no message commits (R170). -/
theorem afterSend_inReset {s : State} (i : Instr) (h : inReset s) : afterSend i s = s := by
  by_cases hi : i = .msgLatchDisable
  · obtain hphase | hphase := h <;> simp [hi, commitFlush, flushing, hphase]
  · rw [afterSend_other hi, id]

/-- In a RESET a message that is accepted is sent, and nothing but the queue and the inputs changes with it (R14, R170). -/
theorem step_inReset_accepted {s : State} {i : Instr} {rest : List Instr} (hphase : inReset s) (hopen : s.sinkOpen = true)
    (hqueue : s.outbox = i :: rest) (hmsg : i.isMessage = true) (hanswer : sinkAccepts s = true) :
    ∃ m, onWire s.config i = some m ∧ step s = .next (accept m (withOutbox rest (sampleInputs s))) := by
  obtain ⟨hoff, hdone⟩ := inSession_of_inReset hphase
  obtain ⟨m, hwire, hsend⟩ := step_sends hoff hdone hqueue hmsg
  refine ⟨m, hwire, hsend.trans ((sendThen_ok (s := withOutbox rest (sampleInputs s)) hopen hanswer).trans ?_)⟩
  exact congrArg _ (afterSend_inReset (s := accept m (withOutbox rest (sampleInputs s))) i hphase)

/-- When the sink accepts `m + n` messages, it accepts the first `m`, and `n` more after them. -/
theorem acceptsNext_add {m n : Nat} {s : State} :
    AcceptsNext (m + n) s ↔ AcceptsNext m s ∧ ∀ b ∈ (s.answers.drop m).take n, b = true := by
  rw [AcceptsNext, AcceptsNext, List.take_add, List.forall_mem_append]

/-- A message sent after `rows` is one row more. -/
theorem afterRows_concat {rows rest : List Instr} {i : Instr} {m : Message} {w s : State}
    (hwire : onWire s.config i = some m) :
    accept m (withOutbox rest (sampleInputs (afterRows rows (i :: rest) w s))) =
      afterRows (rows ++ [i]) rest (sampleInputs (afterRows rows (i :: rest) w s)) s := by
  have hsent : wire s.config (rows ++ [i]) = wire s.config rows ++ [m] := by
    rw [wire, wire, List.filterMap_append, List.filterMap_cons_some hwire, List.filterMap_nil]
  simp [afterRows, hsent, accept, withOutbox, sampleInputs]

/-- A RESET whose messages are accepted sends them one per step, its end-update included, and nothing else changes but the
inputs (R170). -/
theorem run_inReset {s : State} {rows : List Instr} (hphase : inReset s) (hopen : s.sinkOpen = true)
    (hqueue : s.outbox = rows ++ [.msgLatchDisable]) (hmsgs : ∀ i ∈ rows, i.isMessage = true)
    (hend : .msgLatchDisable ∉ rows) (hanswers : AcceptsNext (rows.length + 1) s) :
    ∃ w, Sys2Proof.core.run (rows.length + 1) s = .next (afterRows (rows ++ [.msgLatchDisable]) [] w s) := by
  obtain ⟨hoff, hdone⟩ := inSession_of_inReset hphase
  obtain ⟨hfirst, hlast⟩ := acceptsNext_add.mp hanswers
  obtain ⟨w, hrun⟩ := run_sends_rows hoff hdone hopen hqueue hmsgs hend hfirst
  obtain ⟨hanswer, -⟩ := acceptsNext_succ (n := 0) (s := afterRows rows [.msgLatchDisable] w s) hlast
  obtain ⟨m, hwire, hstep⟩ :=
    step_inReset_accepted (s := afterRows rows [.msgLatchDisable] w s) hphase hopen rfl rfl hanswer
  rw [afterRows_concat (s := s) hwire] at hstep
  exact ⟨_, (run_add hrun 1).trans (run_succ hstep 0)⟩

/-- With the messages of the start RESET sent, the step captures the anchor and begins RUN (R125, D11). -/
theorem step_startResetOver {s : State} (hphase : s.phase = .startReset) (hqueue : s.outbox = []) :
    step s = .next (beginRun (sampleInputs s)) :=
  step_of_settle (by simp [nextAction, sendOrAdvance, advance, hphase, hqueue])

/-- With the messages of the teardown RESET sent, the step closes the sink (R188). -/
theorem step_endResetOver {s : State} (hphase : s.phase = .endReset) (hqueue : s.outbox = []) :
    step s = .next (closeSink (sampleInputs s)) :=
  step_of_settle (by simp [nextAction, sendOrAdvance, advance, hphase, hqueue])

/-- The seventeen messages of RESET from any state in a RESET whose messages are all accepted (R170, R171). -/
theorem run_resetMessages {s : State} (hphase : inReset s) (hopen : s.sinkOpen = true) (hqueue : s.outbox = resetMessages)
    (hanswers : AcceptsNext 17 s) :
    ∃ w, Sys2Proof.core.run 17 s = .next (afterRows resetMessages [] w s) :=
  run_inReset (rows := resetMessages.dropLast) hphase hopen hqueue
    (fun i hi => (sendable_resetMessages i (List.mem_of_mem_dropLast hi)).1) (by decide) hanswers

/-- What the messages of RESET are on the wire at the default addresses (R170, D6). -/
theorem wire_resetMessages :
    wire Config.default resetMessages =
      [⟨80, 127⟩, ⟨20, 0⟩, ⟨52, 0⟩, ⟨21, 0⟩, ⟨53, 0⟩, ⟨22, 0⟩, ⟨54, 0⟩, ⟨23, 0⟩, ⟨24, 0⟩, ⟨25, 0⟩, ⟨26, 0⟩,
       ⟨27, 0⟩, ⟨28, 0⟩, ⟨29, 0⟩, ⟨30, 0⟩, ⟨31, 0⟩, ⟨80, 0⟩] := by decide

end Sys2Proof.Machine

namespace Sys2Proof.Proofs

open Sys2Proof Sys2Proof.Machine

/-- Settles O57: seventeen steps send the messages of RESET, and the eighteenth goes on with what follows the RESET. -/
theorem resetSendsItsSeventeenMessages : Obligations.ResetSendsItsSeventeenMessages := by
  intro s hopen hqueue hanswers hconfig hphase
  obtain ⟨w, hrun⟩ := run_resetMessages hphase hopen hqueue hanswers
  have hsent : (afterRows resetMessages [] w s).out = s.out ++ wire Config.default resetMessages := by
    rw [← hconfig]
    rfl
  rw [wire_resetMessages] at hsent
  obtain hphase | hphase := hphase
  · have hlast := step_startResetOver (s := afterRows resetMessages [] w s) hphase rfl
    exact ⟨_, (run_add hrun 1).trans (run_succ hlast 0), hsent, rfl, rfl, rfl, rfl, rfl,
      fun _ => ⟨rfl, rfl, hopen⟩, fun hend => by simp [hphase] at hend⟩
  · have hlast := step_endResetOver (s := afterRows resetMessages [] w s) hphase rfl
    exact ⟨_, (run_add hrun 1).trans (run_succ hlast 0), hsent, rfl, rfl, rfl, rfl, rfl,
      fun hstart => by simp [hphase] at hstart, fun _ => ⟨rfl, rfl, rfl⟩⟩

end Sys2Proof.Proofs

/-! SUPPORT. How each condition is answered, and the obligations on exceptions (spec 60_exceptions.md). -/

namespace Sys2Proof.Machine

open Sys2Proof

/-! ### An invalid register index is absorbed (R183) -/

/-- An invalid event whose GATE is over raises its condition (R94); with GATE_INVALID off there is no GATE (D3). -/
theorem dropEvent_due {i : Instr} {k : Tick} {r : Byte} {s : State}
    (h : s.config.gateInvalid = true → tooEarly k s = false) :
    dropEvent i k r s = .next (raise (.invalidRegisterIndex (s.pc - 1) r) s) := by
  obtain ⟨hgate, hearly, -⟩ | ⟨-, hdrop⟩ := dropEvent_cases i k r s
  · rw [h hgate] at hearly; cases hearly
  · exact hdrop

theorem invalidIsDropped_of_dropsEvent {mk : Tick → Byte → Byte → Instr} (h : DropsEvent mk) :
    Claims.InvalidIsDropped mk :=
  fun k r v s hdue => (h k r v s).trans (dropEvent_due fun hgate => tooEarly_eq_false.mpr (hdue hgate))

/-! ### A truncated stream enters TEARDOWN (R184, R188) -/

/-- A truncated stream is marked and enters TEARDOWN, with no FLUSH as the spec takes it (R184). -/
theorem raise_streamTruncated_first {index count : Nat} {s : State} (hguard : s.teardownDone = false)
    (hflush : s.config.finalFlush ≠ .always) :
    raise (.streamTruncated index count) s =
      { Claims.entersTeardown .streamTruncated (.streamTruncated index count) s with truncated := true } :=
  calc raise (.streamTruncated index count) s
    _ = endWithoutFlush (givenUp (.streamTruncated index count) { s with truncated := true }) :=
      raise_streamTruncated index count s
    _ = teardown (givenUp (.streamTruncated index count) { s with truncated := true }) := endWithoutFlush_direct hflush
    _ = { Claims.entersTeardown .streamTruncated (.streamTruncated index count) s with truncated := true } :=
      teardown_first (s := givenUp (.streamTruncated index count) { s with truncated := true }) hguard

/-! ### Where the conditions are raised -/

/-- A message row is the Send of the one message it stands for on the wire (R75). -/
theorem exec_of_onWire {i : Instr} {m : Message} {s : State} (hmsg : i.isMessage = true)
    (hwire : onWire s.config i = some m) : exec i s = sendThen m (afterSend i) s := by
  obtain ⟨m', hwire', hsend⟩ := exec_message hmsg s
  obtain rfl : m = m' := Option.some.inj (hwire.symm.trans hwire')
  exact hsend

/-- A listed answer `fail` is what the next Send gets, and only that answer is consumed (R12). -/
theorem refusal_of_answers {s : State} {rest : List Bool} (h : s.answers = false :: rest) :
    sinkAccepts s = false ∧ turnAway s = { s with answers := rest } := by
  simp [sinkAccepts, turnAway, h]

/-- Step 1 of the event loop: with no record in progress a pending interrupt is raised and nothing is fetched (R92, D18). -/
theorem eventLoop_interrupted {s : State} (hstage : s.stage = .fetch) (hirq : s.irqPending = true) :
    eventLoop s = .settle (raise .interrupt s) := by
  simp [eventLoop, hstage, hirq]

/-- With one to nine bytes left at the record index FETCH raises StreamTruncated with their count (R113). -/
theorem fetch_truncated {s : State} (hbegun : 10 * s.pc < s.trace.len) (hshort : s.trace.len < 10 * s.pc + 10) :
    fetch s = .settle (raise (.streamTruncated s.pc (s.trace.len - 10 * s.pc)) s) := by
  obtain ⟨k, hk⟩ : ∃ k, s.trace.len - 10 * s.pc = k + 1 := Nat.exists_eq_add_one.mpr (by omega)
  have hread : memRead s.trace (10 * s.pc) 10 = .short (k + 1) := by rw [memRead_short _ _ _ hshort, hk]
  simp [fetch, hread, hk]

/-! ### From TEARDOWN on (R189) -/

/-- In the teardown RESET a step sends the head of the queue, gives the queue up, or closes the sink. -/
theorem step_inTeardown_shrinks {s t : State} (h : Inv s) (hphase : s.phase = .endReset) (hstep : step s = .next t) :
    t.outbox <:+ s.outbox ∧ (t.phase = .endReset ∨ t.phase = .done) := by
  have hnext {u : State} (hu : step s = .next u) : u = t := Host.Outcome.next.inj (hu.symm.trans hstep)
  cases hqueue : s.outbox with
  | nil =>
    obtain rfl := hnext (step_endResetOver hphase hqueue)
    simp [hqueue]
  | cons i rest =>
    cases hanswer : sinkAccepts s with
    | true =>
      obtain ⟨u, hu, hphase', hqueue', -⟩ := step_inTeardown_accepted h hphase hqueue hanswer
      obtain rfl := hnext hu
      exact ⟨hqueue' ▸ List.suffix_cons i rest, .inl hphase'⟩
    | false =>
      obtain ⟨u, hu, hphase', hqueue', -⟩ := step_inTeardown_failed h hphase hqueue hanswer
      obtain rfl := hnext hu
      exact ⟨hqueue' ▸ List.nil_suffix, .inl hphase'⟩

end Sys2Proof.Machine

namespace Sys2Proof.Proofs

open Sys2Proof Sys2Proof.Machine

/-- Settles O53: no step from TEARDOWN on queues anything, and the invariant ties the guard to the phase. -/
theorem teardownRunsOnce : Obligations.TeardownRunsOnce := by
  intro s t h hguard hstep
  have hlater : t.outbox <:+ s.outbox ∧ (t.phase = .endReset ∨ t.phase = .done) := by
    obtain hphase | hphase := h.guard.mp hguard
    · exact step_inTeardown_shrinks h hphase hstep
    · obtain rfl : s = t := Host.Outcome.next.inj ((step_done hphase).symm.trans hstep)
      exact ⟨List.suffix_rfl, .inr hphase⟩
  obtain ⟨hqueue, hphase⟩ := hlater
  exact ⟨(step_inv h hstep).guard.mpr hphase, hqueue, hphase⟩

/-- Settles O25: each invalid row drops its event, and the response to an invalid register index only counts and warns. -/
theorem invalidEventsAreDropped : Obligations.InvalidEventsAreDropped := by
  refine ⟨?_, ?_, ?_, ?_, ?_⟩
  all_goals exact invalidIsDropped_of_dropsEvent fun _ _ _ _ => rfl

/-- Settles O29: the row is one Send, and its failure enters TEARDOWN. -/
theorem failedSendEntersTeardown : Obligations.FailedSendEntersTeardown := by
  intro i m s rest hmsg hwire hopen hanswers hphase hguard
  obtain ⟨hanswer, haway⟩ := refusal_of_answers hanswers
  rw [exec_of_onWire hmsg hwire, sendThen_refused hphase hguard hopen hanswer, haway]
  rfl

/-- Settles O38: step 1 of the event loop comes before FETCH (D9, D18). -/
theorem interruptIsTakenBeforeFetch : Obligations.InterruptIsTakenBeforeFetch := by
  intro s hphase hqueue hstage hirq hguard hflush
  have hraise : nextAction s = .settle (raise .interrupt (sampleInputs s)) :=
    (nextAction_eventLoop hphase hqueue).trans (eventLoop_interrupted (s := sampleInputs s) hstage hirq)
  rw [step_of_settle hraise, raise_interrupt_first (s := sampleInputs s) hguard hflush]

/-- Settles O40: FETCH finds the record short, and no FLUSH runs. -/
theorem truncatedTraceEntersTeardown : Obligations.TruncatedTraceEntersTeardown := by
  intro s hphase hqueue hstage hirq hbegun hshort hguard hflush
  have hraise : nextAction s =
      .settle (raise (.streamTruncated s.pc (s.trace.len - 10 * s.pc)) (sampleInputs s)) :=
    (nextAction_fetch hphase hqueue hstage hirq).trans (fetch_truncated (s := sampleInputs s) hbegun hshort)
  rw [step_of_settle hraise, raise_streamTruncated_first (s := sampleInputs s) hguard (by simp [hflush])]

/-- Settles O30: the row is one Send, and its failure in the teardown RESET gives up that RESET only (D10). -/
theorem failedSendInTeardownEndsTheReset : Obligations.FailedSendInTeardownEndsTheReset := by
  intro i m s rest hmsg hwire hopen hanswers hphase
  obtain ⟨hanswer, haway⟩ := refusal_of_answers hanswers
  rw [exec_of_onWire hmsg hwire, sendThen_inTeardown_fail hphase hopen hanswer, haway]
  rfl

end Sys2Proof.Proofs

/-! SUPPORT. The steps between the phases of a session, and the obligations on session start and on what follows the start
RESET, the final FLUSH and the teardown RESET (spec 70_reset_and_hazards.md R211). -/

namespace Sys2Proof.Machine

open Sys2Proof

/-- The step that starts a session settles in the created state; no input acts before it (R211). -/
theorem step_off {s : State} (hphase : s.phase = .off) : step s = .next (startSession s) :=
  step_of_settle (by simp [nextAction, hphase])

/-- With PREV_CLOCK_INIT as the spec takes it, session start creates the values of the reset table over the inputs (D2, R38). -/
theorem startSession_noEvent {s : State} (h : s.config.prevClockInit = .noEvent) :
    startSession s = { State.reset with
      config := s.config, trace := s.trace, now := s.now, arrivals := s.arrivals, answers := s.answers } := by
  have hprev : decide (s.config.prevClockInit = .zero) = State.reset.prevValid := by rw [h]; rfl
  rw [startSession, hprev]

/-- A final FLUSH with nothing left to send is over, and the next step is TEARDOWN (R112). -/
theorem step_finalFlushOver {s : State} (hphase : s.phase = .finalFlush) (hqueue : s.outbox = []) :
    step s = .next (teardown (sampleInputs s)) :=
  step_of_settle (by simp [nextAction, sendOrAdvance, advance, hphase, hqueue])

end Sys2Proof.Machine

namespace Sys2Proof.Proofs

open Sys2Proof Sys2Proof.Machine

/-- Settles O41: one step lemma per phase that is over; after the final FLUSH it is the first TEARDOWN. -/
theorem phasesFollowOneAnother : Obligations.PhasesFollowOneAnother := by
  intro s hqueue
  refine ⟨fun hphase => ?startReset, fun hphase hguard => ?finalFlush, fun hphase => ?endReset⟩
  case startReset => exact step_startResetOver hphase hqueue
  case finalFlush => rw [step_finalFlushOver hphase hqueue, teardown_first (s := sampleInputs s) hguard]
  case endReset => exact step_endResetOver hphase hqueue

/-- Settles O43: the step in OFF is session start, and `noEvent` leaves the previous clock as the reset table has it. -/
theorem sessionStartCreatesTheResetState : Obligations.SessionStartCreatesTheResetState := by
  intro s hphase hinit
  rw [step_off hphase, startSession_noEvent hinit]

end Sys2Proof.Proofs
